-- ==== Sys2Proof/Word.lean ====
section
/-!
DEFINITION. The value types of the block: words of the host bus (R21), the 16-bit values of DATA and of the
CRC (R42, R110), bytes of a frame (R7), and the 9-bit byte counters (R48).
-/

namespace Sys2Proof

/-- A byte of a frame (R7). -/
abbrev Byte := BitVec 8

/-- A 16-bit value: a word of `DATA` (R42), a CRC (R110), `rq.addr`, `rq.arg` (R45). -/
abbrev Half := BitVec 16

/-- A 32-bit register of the host window (R21). -/
abbrev Word := BitVec 32

/-- A 9-bit byte counter, 0 to 256 (R48). -/
abbrev Count := BitVec 9

/-- The six bus operations: the values 1 to 6 of `rq.op` (R45), in the order of R82. -/
inductive BusOp where
  | rdcoil
  | rdireg
  | rdhreg
  | wrcoil
  | wrreg
  | wrregs
  deriving DecidableEq, Repr, Inhabited

/-- `rq`, the latched request (R45). -/
structure Request where
  op    : BusOp
  slave : Byte
  addr  : Half
  arg   : Half
  deriving DecidableEq, Repr, Inhabited

end Sys2Proof
end

