-- ==== Sys2Proof/Syntax.lean ====
section
/-!
DEFINITION. The instructions of the block: the eight commands of R82, one constructor per row of
`spec/opcode_table.json`.  A command word carries no operands (R81): they are taken from `SLAVE`, `ADDR`, `ARG`,
`DATA`, `CFG_*` (R84), so no constructor has an argument.
-/

namespace Sys2Proof

/-- The eight commands (R82). -/
inductive Instr where
  | rdcoil
  | rdireg
  | rdhreg
  | wrcoil
  | wrreg
  | wrregs
  | openPort
  | closePort
  deriving DecidableEq, Repr

end Sys2Proof
end

