-- ==== Sys2Proof/WellFormed.lean ====
section
/-!
DEFINITION. Well-formed command words (R80 to R83).  An `Instr` has no operand, so every term of it is
well-formed; what can be ill-formed is the 32-bit word written to `CMD`.
-/

namespace Sys2Proof

/-- The opcode numbers of R82; 0x0, 0x7 and 0xA to 0xF are reserved (R83). -/
def opcodeDefined (op : BitVec 4) : Bool :=
  [0x1#4, 0x2#4, 0x3#4, 0x4#4, 0x5#4, 0x6#4, 0x8#4, 0x9#4].contains op

/-- The field ZERO, bits 31:4 of a command word, is 0 (R80). -/
def zeroFieldOk (w : Word) : Bool := w.extractLsb' 4 28 == 0#28

/-- A command word that R81 does not call illegal. -/
def wordWellFormed (w : Word) : Bool := zeroFieldOk w && opcodeDefined (w.extractLsb' 0 4)

/-- Every instruction is well-formed: a command carries no operand (R81). -/
def Instr.wellFormed (_ : Instr) : Bool := true

end Sys2Proof
end

