-- ==== Sys2Proof/Decode.lean ====
section
/-!
DEFINITION. Decoding a command word (R80 to R83), total on every 32-bit word and refusing the illegal ones by
name, and the encoder after it.  The host bus moves whole 32-bit words only (R62, R70), so a command is one word
and no byte order of it is observable.
-/

namespace Sys2Proof

/-- Why a word is no command (R81, R83). -/
inductive DecodeError where
  /-- A bit of 31:4 is set (R80). -/
  | zeroFieldSet
  /-- Bits 31:4 are 0 and the opcode is 0x0, 0x7 or 0xA to 0xF (R83). -/
  | reservedOpcode (op : BitVec 4)
  deriving DecidableEq, Repr

/-- The opcode map of R82. -/
def opcodeMap (op : BitVec 4) : Option Instr :=
  match op.toNat with
  | 1 => some .rdcoil
  | 2 => some .rdireg
  | 3 => some .rdhreg
  | 4 => some .wrcoil
  | 5 => some .wrreg
  | 6 => some .wrregs
  | 8 => some .openPort
  | 9 => some .closePort
  | _ => none

/-- Decoding of a word written to `CMD` (R81). -/
def decode (w : Word) : Except DecodeError Instr :=
  if w.extractLsb' 4 28 ≠ 0#28 then .error .zeroFieldSet
  else
    match opcodeMap (w.extractLsb' 0 4) with
    | some i => .ok i
    | none => .error (.reservedOpcode (w.extractLsb' 0 4))

/-- The opcode of a command (R82). -/
def opcodeOf : Instr → BitVec 4
  | .rdcoil => 0x1#4
  | .rdireg => 0x2#4
  | .rdhreg => 0x3#4
  | .wrcoil => 0x4#4
  | .wrreg => 0x5#4
  | .wrregs => 0x6#4
  | .openPort => 0x8#4
  | .closePort => 0x9#4

/-- The command word of a command: `0x0000000n` (R82). -/
def encode (i : Instr) : Word := (0#28) ++ opcodeOf i

/-- What the decoder reads from an instruction whose bits are `w`, numbered as `spec/opcode_table.json` numbers
them: the one 32-bit word of format C, the bits above `nbits` zero. -/
def decodeTableWord (nbits w : Nat) : Option Instr :=
  if w % 2 ^ nbits < 2 ^ 32 then (decode (BitVec.ofNat 32 (w % 2 ^ nbits))).toOption else none

end Sys2Proof
end

