-- ==== Sys2Proof/Machine/Crc.lean ====
section
/-!
DEFINITION. The CRC-16 unit (R110 to R114): the Modbus CRC, reflected constant 0xA001, initial value 0xFFFF, no
final exclusive-or.  Not CRC-16/CCITT: the spec's conflict C1.
-/

namespace Sys2Proof.Machine

/-- `lo(w)`, bits 7:0 (R7). -/
def loByte (w : Half) : Byte := w.setWidth 8

/-- `hi(w)`, bits 15:8 (R7). -/
def hiByte (w : Half) : Byte := (w >>> 8).setWidth 8

/-- One pass of the loop of R111. -/
def crcShift (c : Half) : Half := if c.getLsbD 0 then (c >>> 1) ^^^ 0xA001#16 else c >>> 1

/-- `n` passes of the loop of R111. -/
def crcShifts : Nat → Half → Half
  | 0, c => c
  | n + 1, c => crcShifts n (crcShift c)

/-- `CrcByte(c, b)` (R111). -/
def crcByte (c : Half) (b : Byte) : Half := crcShifts 8 (c ^^^ b.setWidth 16)

/-- `Crc16(f)` (R112). -/
def crc16 (f : List Byte) : Half := f.foldl crcByte 0xFFFF#16

/-- The entry `T[i]` of a table-driven implementation (R114). -/
def crcTableEntry (i : Byte) : Half := crcShifts 8 (i.setWidth 16)

/-- `CrcByte` by the table: `(c >> 8) ^ T[(c ^ b)[7:0]]` (R114). -/
def crcByteByTable (c : Half) (b : Byte) : Half :=
  (c >>> 8) ^^^ crcTableEntry (loByte (c ^^^ b.setWidth 16))

end Sys2Proof.Machine
end

