-- ==== Sys2Proof/Config.lean ====
section
/-!
DEFINITION. What the platform fixes, and the free values.  The spec leaves the contents of `DATA`, `TXBUF`,
`RXBUF` and `rq` after a reset arbitrary ("universally quantified, or a draw, not as zero", R281): they are draws
of the constants below, which have no body, so no proof can know a value of one (log 2).
-/

namespace Sys2Proof.Config

/-- The word `DATA[i]` holds after the reset number `n` (R281; log 2). -/
opaque drawData : Nat → Nat → Half

/-- The byte `TXBUF[i]` holds after the reset number `n` (R281; log 2). -/
opaque drawTx : Nat → Nat → Byte

/-- The byte `RXBUF[i]` holds after the reset number `n` (R281; log 2). -/
opaque drawRx : Nat → Nat → Byte

/-- The latched request `rq` after the reset number `n` (R45, R281; log 2). -/
opaque drawRequest : Nat → Request

/-- The level of the input pin `port_ok` before the platform first changes it.
DESIGN CHOICE (log 6): the spec gives the input no default (R49, D21). -/
def portOkAtReset : Bool := true

/-- The nonzero baud values the platform's `BaudSupported` rejects: none is the spec's default `b != 0`
(R6, R222; log 5). -/
def baudRefusedAtReset : List Word := []

end Sys2Proof.Config
end

