-- ==== Sys2Proof/Machine/State.lean ====
section
/-!
DEFINITION. The state of one MBRTU instance (R20 to R53) as plain data, the events and output actions of the
event model (R9, R11), and the state after reset (R53, R280).

The spec's step is a function of a state and an event.  Here the pending events of the environment stand in
`inputs`, oldest first, so that one step is a function of the state alone: it takes the oldest event (log 1).
-/

namespace Sys2Proof.Machine

/-- The five phases of the sequencer (R46). -/
inductive Phase where
  | idle
  | pre
  | tx
  | post
  | rx
  deriving DecidableEq, Repr

/-- The level of the direction pin; `z` is "not driven" (R44). -/
inductive PinLevel where
  | low
  | high
  | z
  deriving DecidableEq, Repr

/-- The output actions (R8, R11). -/
inductive Action where
  /-- `emit Tx(b)`: the byte handed to the serializer. -/
  | tx (b : Byte)
  /-- `emit Pin(l)`: the direction pin is now at this level. -/
  | pin (l : PinLevel)
  deriving DecidableEq, Repr

/-- The error codes of R243, in its order. -/
inductive ErrorCode where
  | success
  | configError
  | invalidArgument
  | timeoutError
  | noResponseError
  | ioError
  | framingError
  | checksumError
  | exceptionError
  | closedError
  | unknownHubError
  deriving DecidableEq, Repr

/-- The events (R9).  A host access carries its byte offset and its size in bytes, as `MemRead(off, 4)` and
`MemWrite(off, 4, v)` of R8 do, so that the accesses of another width that R62 answers with `BusError` are
events too.  `portOk` is the environment changing the input pin of R49 (log 6). -/
inductive Event where
  | reset
  | ioFault
  | rxByte (b : Byte)
  | txAccept
  | tick
  | hostWrite (off size : Nat) (v : Word)
  | hostRead (off size : Nat)
  | portOk (level : Bool)
  deriving DecidableEq, Repr

/-- What the bus answered to the latest host access (R62, R63; log 4). -/
inductive BusResponse where
  /-- No host access yet. -/
  | noAccess
  /-- The value of a read (R63). -/
  | data (v : Word)
  /-- A write was taken, whatever its effect (R64). -/
  | ack
  /-- `BusError`: the access was not performed (R62). -/
  | busError
  deriving DecidableEq, Repr

/-- Why a step stops with a fault.  No state that meets `Sys2Proof.Safety.Inv` steps to one (log 7): they stand
for accesses outside the ranges that R47, R48 and R52 give the counters, to which the spec gives no meaning. -/
inductive Fault where
  /-- Raised by `Tick` in PRE, POST or RX when `timer` is already 0: R47 says it is "never decremented below 0 and
  never wrapping".  Safe: the model stops. -/
  | timerUnderflow
  /-- Raised by `TxAccept` in TX when `tx_idx` is beyond the 256 bytes of `TXBUF` (R43, R48).  Safe: the model
  stops. -/
  | txIndexBeyondBuffer
  /-- Raised by `RxByte` in RX when `rx_cnt` is beyond the 256 bytes of `RXBUF` (R43, R48).  Safe: the model
  stops. -/
  | rxCountBeyondBuffer
  deriving DecidableEq, Repr

/-- Why a step is refused. -/
inductive Refusal where
  /-- Raised by an arm of `exec` whose instruction has no meaning yet; no arm is left without one.  Safe: the
  model stops. -/
  | notModelled (mnemonic : String)
  deriving DecidableEq, Repr

/-- The state.  The fields down to `expLen` are the spec's (R20); the last six are the model's own: the
environment's side of the event model (R9, R11, R49), the platform's baud list (R6) and the draw counter (R281). -/
structure State where
  /-- `CTRL.IE` (R22). -/
  ie          : Bool
  /-- `open`, STATUS.OPEN (R24). -/
  isOpen      : Bool
  /-- `busy`, STATUS.BUSY (R25). -/
  busy        : Bool
  /-- `done`, STATUS.DONE (R26). -/
  done        : Bool
  /-- `rej`, STATUS.REJ (R27). -/
  rej         : Bool
  /-- `de`, the logical state of the direction line (R44). -/
  de          : Bool
  /-- `de_drv`: the block drives the pin (R44). -/
  deDrv       : Bool
  /-- `phase` (R46). -/
  phase       : Phase
  /-- `CMD`: the latest accepted command word (R29). -/
  cmd         : Word
  /-- `SLAVE` (R30). -/
  slave       : Word
  /-- `ADDR` (R31). -/
  addr        : Word
  /-- `ARG` (R32). -/
  arg         : Word
  /-- `err_code`, ERR.CODE (R33). -/
  errCode     : Byte
  /-- `err_exc`, ERR.EXC (R33). -/
  errExc      : Byte
  /-- `CFG_BAUD` (R35). -/
  cfgBaud     : Word
  /-- `CFG_LINE` (R36). -/
  cfgLine     : Word
  /-- `CFG_TIMEOUT` (R38). -/
  cfgTimeout  : Word
  /-- `CFG_RTS` (R39). -/
  cfgRts      : Word
  /-- `CFG_RTS_DELAY` (R40). -/
  cfgRtsDelay : Word
  /-- `DATA[0..124]` (R42). -/
  data        : Vector Half 125
  /-- `TXBUF[0..255]` (R43). -/
  txbuf       : Vector Byte 256
  /-- `RXBUF[0..255]` (R43). -/
  rxbuf       : Vector Byte 256
  /-- `rq`, the latched request (R45). -/
  rq          : Request
  /-- `timer` (R47). -/
  timer       : Word
  /-- `tx_idx` (R48). -/
  txIdx       : Count
  /-- `tx_len` (R48). -/
  txLen       : Count
  /-- `rx_cnt` (R48). -/
  rxCnt       : Count
  /-- `exp_len` (R48). -/
  expLen      : Count
  /-- The environment's pending events, oldest first (R9; log 1). -/
  inputs      : List Event
  /-- The output trace, oldest action first (R11; log 3). -/
  trace       : List Action
  /-- The bus's answer to the latest host access (R62, R63; log 4). -/
  bus         : BusResponse
  /-- The level of the input pin `port_ok` (R49; log 6). -/
  portOk      : Bool
  /-- The nonzero baud values for which the platform's `BaudSupported` is false (R6, R35; log 5). -/
  baudRefused : List Word
  /-- How many times the arbitrary contents of R281 have been drawn (log 2). -/
  draws       : Nat
  deriving DecidableEq, Repr

/-- The contents of `DATA` after the reset number `n` (R281). -/
def drawnData (n : Nat) : Vector Half 125 := Vector.ofFn fun i => Config.drawData n i.val

/-- The contents of `TXBUF` after the reset number `n` (R281). -/
def drawnTx (n : Nat) : Vector Byte 256 := Vector.ofFn fun i => Config.drawTx n i.val

/-- The contents of `RXBUF` after the reset number `n` (R281). -/
def drawnRx (n : Nat) : Vector Byte 256 := Vector.ofFn fun i => Config.drawRx n i.val

/-- The machine right after reset (R53, R280): closed, idle, with no event pending and nothing emitted. -/
def State.reset : State where
  ie := false
  isOpen := false
  busy := false
  done := false
  rej := false
  de := false
  deDrv := false
  phase := .idle
  cmd := 0
  slave := 0
  addr := 0
  arg := 0
  errCode := 0
  errExc := 0
  cfgBaud := 0
  cfgLine := 0x03
  cfgTimeout := 3000000
  cfgRts := 0
  cfgRtsDelay := 0
  data := drawnData 0
  txbuf := drawnTx 0
  rxbuf := drawnRx 0
  rq := Config.drawRequest 0
  timer := 0
  txIdx := 0
  txLen := 0
  rxCnt := 0
  expLen := 0
  inputs := []
  trace := []
  bus := .noAccess
  portOk := Config.portOkAtReset
  baudRefused := Config.baudRefusedAtReset
  draws := 1

end Sys2Proof.Machine
end

