-- ==== Sys2Proof/Machine/Codec.lean ====
section
/-!
DEFINITION. The frame codec: function codes, request payloads and frames (R85 to R88, R120), lengths (R94, R95),
the generic and the response decoder (R122 to R137).  All of it is pure: no function here reads or writes State.
-/

namespace Sys2Proof.Machine

/-- The function codes `FC(op)` (R86).  0x06 is D0's; the other five are the spec's general knowledge of Modbus,
kept in this one table as R86 asks. -/
def functionCode : BusOp → Byte
  | .rdcoil => 0x01
  | .rdireg => 0x04
  | .rdhreg => 0x03
  | .wrcoil => 0x05
  | .wrreg => 0x06
  | .wrregs => 0x10

/-- A 16-bit field of a payload, high byte first (R68). -/
def halfBytes (w : Half) : List Byte := [hiByte w, loByte w]

/-- `{h, l}` (R7). -/
def joinBytes (h l : Byte) : Half := (h.setWidth 16 <<< 8) ||| l.setWidth 16

/-- The 16-bit value `V` of a coil write: 0xFF00 for true, 0x0000 for false (R87, R197). -/
def coilValue (arg : Half) : Half := if arg = 1 then 0xFF00 else 0x0000

/-- `Payload(rq)` (R197; formats Q4 and QM of R87 and R88). -/
def payload (rq : Request) (data : Vector Half 125) : List Byte :=
  match rq.op with
  | .rdcoil | .rdireg | .rdhreg | .wrreg => halfBytes rq.addr ++ halfBytes rq.arg
  | .wrcoil => halfBytes rq.addr ++ halfBytes (coilValue rq.arg)
  | .wrregs =>
      halfBytes rq.addr ++ halfBytes rq.arg ++ [BitVec.ofNat 8 (2 * rq.arg.toNat)] ++
        (data.toList.take rq.arg.toNat).flatMap halfBytes

/-- `Encode(s, fc, p)` (R120). -/
def encodeFrame (slave fc : Byte) (p : List Byte) : List Byte :=
  let body := slave :: fc :: p
  body ++ [loByte (crc16 body), hiByte (crc16 body)]

/-- The request frame of a latched request (R121, R197). -/
def requestFrame (rq : Request) (data : Vector Half 125) : List Byte :=
  encodeFrame rq.slave (functionCode rq.op) (payload rq data)

/-- `ceil(a/b)` (R7). -/
def ceilDiv (a b : Nat) : Nat := (a + b - 1) / b

/-- `TxLen(op, arg)` (R94). -/
def txLenOf (op : BusOp) (arg : Nat) : Nat :=
  match op with
  | .rdcoil | .rdireg | .rdhreg | .wrcoil | .wrreg => 8
  | .wrregs => 9 + 2 * arg

/-- `ExpLen(op, arg)` (R95). -/
def expLenOf (op : BusOp) (arg : Nat) : Nat :=
  match op with
  | .rdcoil => 5 + ceilDiv arg 8
  | .rdireg | .rdhreg => 5 + 2 * arg
  | .wrcoil | .wrreg | .wrregs => 8

/-- The three read commands, whose response format is RR (R89). -/
def isRead : BusOp → Bool
  | .rdcoil | .rdireg | .rdhreg => true
  | .wrcoil | .wrreg | .wrregs => false

/-- What a decoder returns (R122). -/
inductive Decoded where
  /-- `Ok(bytes)`. -/
  | ok (bytes : List Byte)
  /-- `Err(code, exc)`. -/
  | err (code : ErrorCode) (exc : Byte)
  deriving DecidableEq, Repr

/-- `f[i]`; the decoders read it only where `i < len(f)`. -/
def byteAt (f : List Byte) (i : Nat) : Byte := f.getD i 0

/-- The CRC field `{f[n-1], f[n-2]}` of a frame of length `n` (R113). -/
def crcField (f : List Byte) : Half := joinBytes (byteAt f (f.length - 1)) (byteAt f (f.length - 2))

/-- The bytes `f[0..n-3]` that the CRC covers (R113). -/
def crcCovered (f : List Byte) : List Byte := f.take (f.length - 2)

/-- `DecodeGeneric(f)` (R124 to R127). -/
def decodeGeneric (f : List Byte) : Decoded :=
  if f.length < 4 then .err .framingError 0
  else if crc16 (crcCovered f) ≠ crcField f then .err .checksumError 0
  else if (byteAt f 1).getLsbD 7 then
    if f.length < 5 then .err .framingError 0 else .err .exceptionError (byteAt f 2)
  else .ok ((crcCovered f).drop 2)

/-- The checks of R130 after `DecodeGeneric` has answered `Ok(p)`. -/
def checkResponse (rq : Request) (tx f p : List Byte) : Decoded :=
  if byteAt f 0 ≠ rq.slave then .err .framingError 0
  else if byteAt f 1 ≠ functionCode rq.op then .err .framingError 0
  else if f.length ≠ expLenOf rq.op rq.arg.toNat then .err .framingError 0
  else if isRead rq.op then
    if (byteAt p 0).toNat ≠ expLenOf rq.op rq.arg.toNat - 5 then .err .framingError 0
    else .ok ((p.drop 1).take (expLenOf rq.op rq.arg.toNat - 5))
  else if p ≠ (tx.take 6).drop 2 then .err .framingError 0
  else .ok []

/-- `DecodeResponse(rq, tx, f)` (R130). -/
def decodeResponse (rq : Request) (tx f : List Byte) : Decoded :=
  match decodeGeneric f with
  | .err code exc => .err code exc
  | .ok p => checkResponse rq tx f p

/-- Register value `i` of the data bytes of a read: `{d[2i], d[2i+1]}` (R135, R199). -/
def registerValue (d : List Byte) (i : Nat) : Half := joinBytes (byteAt d (2 * i)) (byteAt d (2 * i + 1))

/-- Word `w` of `DATA` after a read of `n` coils: `{d[2w+1], d[2w]}` with the bits of coils at and above `n`
forced to 0 (R198). -/
def coilWord (d : List Byte) (n w : Nat) : Half :=
  joinBytes (byteAt d (2 * w + 1)) (byteAt d (2 * w)) &&& BitVec.ofNat 16 (2 ^ min 16 (n - 16 * w) - 1)

/-- `DATA` after `WriteBack` of the data bytes `d` (R198, R199). -/
def writtenBack (rq : Request) (d : List Byte) (old : Vector Half 125) : Vector Half 125 :=
  match rq.op with
  | .rdcoil =>
      Vector.ofFn fun w =>
        if w.val < ceilDiv rq.arg.toNat 16 then coilWord d rq.arg.toNat w.val else old[w]
  | .rdireg | .rdhreg =>
      Vector.ofFn fun i => if i.val < rq.arg.toNat then registerValue d i.val else old[i]
  | .wrcoil | .wrreg | .wrregs => old

/-- The customary names of the Modbus exception codes (R93).  The block passes every value through and no rule
reads this table. -/
def exceptionName (code : Byte) : Option String :=
  match code.toNat with
  | 1 => some "illegal function"
  | 2 => some "illegal data address"
  | 3 => some "illegal data value"
  | 4 => some "server device failure"
  | _ => none

end Sys2Proof.Machine
end

