-- ==== Sys2Proof/Machine/Operands.lean ====
section
/-!
DEFINITION. What the block reads from its registers: the fields of the `CFG_*` registers (R35 to R40), the level
of the direction pin (R44), the operands of a command and their bounds (R84, R196), the legality of a
configuration (R222), and the numbers of phases and error codes (R46, R243).
-/

namespace Sys2Proof.Machine

/-- `CFG_RTS.MODE`, bits 1:0 (R39). -/
def rtsMode (s : State) : BitVec 2 := s.cfgRts.extractLsb' 0 2

/-- `CFG_RTS.PIN`, bits 15:8 (R39). -/
def rtsPin (s : State) : Byte := s.cfgRts.extractLsb' 8 8

/-- `RtsEnabled` (R39). -/
def rtsEnabled (s : State) : Bool := rtsMode s == 1 || rtsMode s == 2

/-- `CFG_LINE.DBITS`, bits 1:0 (R36). -/
def lineDbits (s : State) : BitVec 2 := s.cfgLine.extractLsb' 0 2

/-- `CFG_LINE.PARITY`, bits 3:2 (R36). -/
def lineParity (s : State) : BitVec 2 := s.cfgLine.extractLsb' 2 2

/-- `CFG_LINE.STOP2`, bit 4 (R36). -/
def lineStop2 (s : State) : Bool := s.cfgLine.getLsbD 4

/-- `de_pin` (R44).  A driven pin with MODE 0 or 3, which R52 (d) excludes and R44 gives no level, is `z`
(log 8). -/
def dePin (s : State) : PinLevel :=
  if s.deDrv = false then .z
  else if rtsMode s = 1 then (if s.de then .high else .low)
  else if rtsMode s = 2 then (if s.de then .low else .high)
  else .z

/-- `BaudSupported(b)`: false for 0 and for the values the platform rejects (R6, R35; log 5). -/
def baudSupported (s : State) (b : Word) : Bool := b != 0 && !s.baudRefused.contains b

/-- `LegalConfig` (R222). -/
def legalConfig (s : State) : Bool :=
  baudSupported s s.cfgBaud && lineParity s != 3 && rtsMode s != 3

/-- The bounds of `ARG` (R196). -/
def argInRange (op : BusOp) (arg : Nat) : Bool :=
  match op with
  | .rdcoil => decide (1 ≤ arg) && decide (arg ≤ 2000)
  | .rdireg | .rdhreg => decide (1 ≤ arg) && decide (arg ≤ 125)
  | .wrcoil => decide (arg ≤ 1)
  | .wrreg => decide (arg ≤ 0xFFFF)
  | .wrregs => decide (1 ≤ arg) && decide (arg ≤ 123)

/-- `ValidArgs(op)`, on the full 32-bit register values (R196). -/
def validArgs (op : BusOp) (s : State) : Bool :=
  decide (s.slave.toNat ≤ 247) && decide (s.addr.toNat ≤ 0xFFFF) && argInRange op s.arg.toNat

/-- `{ op, SLAVE[7:0], ADDR[15:0], ARG[15:0] }` (R197). -/
def latchedRequest (op : BusOp) (s : State) : Request where
  op := op
  slave := s.slave.setWidth 8
  addr := s.addr.setWidth 16
  arg := s.arg.setWidth 16

/-- The number of a phase (R46). -/
def phaseCode : Phase → BitVec 3
  | .idle => 0
  | .pre => 1
  | .tx => 2
  | .post => 3
  | .rx => 4

/-- The number of an error code (R243). -/
def errorNumber : ErrorCode → Byte
  | .success => 0
  | .configError => 1
  | .invalidArgument => 2
  | .timeoutError => 3
  | .noResponseError => 4
  | .ioError => 5
  | .framingError => 6
  | .checksumError => 7
  | .exceptionError => 8
  | .closedError => 9
  | .unknownHubError => 10

end Sys2Proof.Machine
end

