-- ==== Sys2Proof/Machine/Flags.lean ====
section
/-!
DEFINITION. The flags as the host sees them: the words of STATUS and ERR (R23, R33) and the flags a write of
STATUS clears (R23).
-/

namespace Sys2Proof.Machine

/-- A flag at bit `i` of a 32-bit word. -/
def flagAt (i : Nat) (b : Bool) : Word := (BitVec.ofBool b).setWidth 32 <<< i

/-- `open | busy<<1 | done<<2 | rej<<3 | de<<4 | de_drv<<5 | phase<<8` (R23). -/
def statusWord (s : State) : Word :=
  flagAt 0 s.isOpen ||| flagAt 1 s.busy ||| flagAt 2 s.done ||| flagAt 3 s.rej ||| flagAt 4 s.de |||
    flagAt 5 s.deDrv ||| ((phaseCode s.phase).setWidth 32 <<< 8)

/-- The word of ERR: `EXC << 8 | CODE` (R33). -/
def errWord (s : State) : Word := (s.errExc.setWidth 32 <<< 8) ||| s.errCode.setWidth 32

/-- A write of STATUS: bit 2 clears `done`, bit 3 clears `rej`, nothing else (R23).  It is the host's
acknowledgement of a completion, the return from it (R261). -/
def acknowledge (v : Word) (s : State) : State :=
  { s with done := s.done && !v.getLsbD 2, rej := s.rej && !v.getLsbD 3 }

end Sys2Proof.Machine
end

