-- ==== Sys2Proof/Machine/Ops.lean ====
section
/-!
DEFINITION. The named operations on the state that the rules share: emitting an action, `SetDe` (R151), `Complete`
(R250, the block's taking of an exception), `EnterTx` (R157), `BeginExchange` (R152), `Expire` (R169), `EnterRx`
(R166), the stores into the buffers (R42, R43, R170, R197), `WriteBack` (R198, R199), and `BusCommand` (R197).
-/

namespace Sys2Proof.Machine

/-- Append one action to the output trace (R8, R11). -/
def emit (a : Action) (s : State) : State := { s with trace := s.trace ++ [a] }

/-- `SetDe(v)` (R151). -/
def setDe (v : Bool) (s : State) : State :=
  if s.de = v then s else emit (.pin (dePin { s with de := v })) { s with de := v }

/-- `Complete(code, exc)` (R250). -/
def complete (code : ErrorCode) (exc : Byte) (s : State) : State :=
  { (if s.de then setDe false s else s) with
    busy := false
    phase := .idle
    errCode := errorNumber code
    errExc := exc
    done := true }

/-- `EnterTx` (R157). -/
def enterTx (s : State) : State := { s with phase := .tx, txIdx := 0 }

/-- PRE and POST are entered with the configured delay (R154, R161). -/
def enterDelay (p : Phase) (s : State) : State := { s with phase := p, timer := s.cfgRtsDelay }

/-- `BeginExchange` (R152). -/
def beginExchange (s : State) : State :=
  let started := { s with busy := true, txIdx := 0, rxCnt := 0 }
  if rtsEnabled started then
    if started.cfgRtsDelay = 0 then enterTx (setDe true started) else enterDelay .pre (setDe true started)
  else enterTx started

/-- `Expire` (R169). -/
def expire (s : State) : State :=
  if s.rxCnt = 0 then complete .noResponseError 0 s else complete .timeoutError 0 s

/-- `EnterRx` (R166). -/
def enterRx (s : State) : State :=
  let waiting :=
    { (if s.de then setDe false s else s) with phase := .rx, rxCnt := 0, timer := s.cfgTimeout }
  if waiting.timer = 0 then expire waiting else waiting

/-- `for i in 0 .. len(f)-1: TXBUF[i] <- f[i]` (R197); the bytes beyond keep their value (R43). -/
def storeFrame (f : List Byte) (buf : Vector Byte 256) : Vector Byte 256 :=
  Vector.ofFn fun i => f.getD i.val buf[i]

/-- `WriteBack(rq, d)` (R198, R199). -/
def writeBack (d : List Byte) (s : State) : State := { s with data := writtenBack s.rq d s.data }

/-- What a bus command writes before its exchange begins: the latched request, the frame, its length and the
expected length (R197). -/
def loadRequest (rq : Request) (s : State) : State :=
  { s with
    rq := rq
    txbuf := storeFrame (requestFrame rq s.data) s.txbuf
    txLen := BitVec.ofNat 9 (requestFrame rq s.data).length
    expLen := BitVec.ofNat 9 (expLenOf rq.op rq.arg.toNat) }

/-- `BusCommand(op)` (R197). -/
def busCommand (op : BusOp) (s : State) : State :=
  if validArgs op s = false then complete .invalidArgument 0 s
  else if s.isOpen = false then complete .closedError 0 s
  else beginExchange (loadRequest (latchedRequest op s) s)

end Sys2Proof.Machine
end

