-- ==== Sys2Proof/Machine/Lifecycle.lean ====
section
/-!
DEFINITION. The lifecycle commands OPEN and CLOSE (R220 to R225), as they act in the step of the `CMD` write after
`Start` (R226).
-/

namespace Sys2Proof.Machine

/-- The effect of a successful OPEN on `open` and the direction line (R220, R221). -/
def connect (s : State) : State :=
  if rtsEnabled s then
    emit (.pin (dePin { s with isOpen := true, deDrv := true, de := false }))
      { s with isOpen := true, deDrv := true, de := false }
  else { s with isOpen := true }

/-- OPEN (R220). -/
def execOpen (s : State) : Host.Outcome State Fault Refusal :=
  if s.isOpen then .next (complete .success 0 s)
  else if legalConfig s = false then .next (complete .configError 0 s)
  else if s.portOk = false then .next (complete .ioError 0 s)
  else .next (complete .success 0 (connect s))

/-- The effect of CLOSE on `open` and the direction line (R223, R224). -/
def disconnect (s : State) : State :=
  if s.deDrv then emit (.pin .z) { s with isOpen := false, deDrv := false, de := false }
  else { s with isOpen := false }

/-- CLOSE (R223). -/
def execClose (s : State) : Host.Outcome State Fault Refusal := .next (complete .success 0 (disconnect s))

end Sys2Proof.Machine
end

