-- ==== Sys2Proof/Machine/Master.lean ====
section
/-!
DEFINITION. The six RTU master commands (R190 to R195).  Each meaning is what the command does in the step of the
`CMD` write, after `Start` has refused the write if `busy = 1` and has cleared `done` and `ERR` (R226, in
Machine/HostAccess.lean).  The rest of its exchange is the sequencer's (Machine/Sequencer.lean).
-/

namespace Sys2Proof.Machine

/-- RDCOIL (R190). -/
def execRdcoil (s : State) : Host.Outcome State Fault Refusal := .next (busCommand .rdcoil s)

/-- RDIREG (R191). -/
def execRdireg (s : State) : Host.Outcome State Fault Refusal := .next (busCommand .rdireg s)

/-- RDHREG (R192). -/
def execRdhreg (s : State) : Host.Outcome State Fault Refusal := .next (busCommand .rdhreg s)

/-- WRCOIL (R193). -/
def execWrcoil (s : State) : Host.Outcome State Fault Refusal := .next (busCommand .wrcoil s)

/-- WRREG (R194). -/
def execWrreg (s : State) : Host.Outcome State Fault Refusal := .next (busCommand .wrreg s)

/-- WRREGS (R195). -/
def execWrregs (s : State) : Host.Outcome State Fault Refusal := .next (busCommand .wrregs s)

end Sys2Proof.Machine
end

