-- ==== Sys2Proof/Machine/Dispatch.lean ====
section
/-!
DEFINITION. The meaning of each command (R82, R226): one arm per constructor.
-/

namespace Sys2Proof.Machine

def exec (i : Instr) (s : State) : Host.Outcome State Fault Refusal :=
  match i with
  | .rdcoil => Sys2Proof.Machine.execRdcoil s
  | .rdireg => Sys2Proof.Machine.execRdireg s
  | .rdhreg => Sys2Proof.Machine.execRdhreg s
  | .wrcoil => Sys2Proof.Machine.execWrcoil s
  | .wrreg => Sys2Proof.Machine.execWrreg s
  | .wrregs => Sys2Proof.Machine.execWrregs s
  | .openPort => Sys2Proof.Machine.execOpen s
  | .closePort => Sys2Proof.Machine.execClose s

end Sys2Proof.Machine
end

