-- ==== Sys2Proof/Machine/Window.lean ====
section
/-!
DEFINITION. The host register window (R21, R60 to R67): which register stands at an offset, and the value a read
of it returns.  The window is the block's only address space, and every location of it is a register.
-/

namespace Sys2Proof.Machine

/-- What stands at an aligned offset of the window (R21). -/
inductive Reg where
  | ctrl
  | status
  | cmd
  | slave
  | addr
  | arg
  | err
  | rxcnt
  | cfgBaud
  | cfgLine
  | cfgTimeout
  | cfgRts
  | cfgRtsDelay
  | txlen
  | explen
  | timer
  | data (i : Fin 125)
  | txbuf (i : Fin 256)
  | rxbuf (i : Fin 256)
  /-- Any other aligned offset below 0x1000 (R66). -/
  | unmapped
  deriving DecidableEq, Repr

/-- The buffers of the map of R21: `DATA` at 0x200, `TXBUF` at 0x400, `RXBUF` at 0x800, one element every four
bytes. -/
def bufferAt (off : Nat) : Reg :=
  if hd : 0x200 ≤ off ∧ off < 0x200 + 4 * 125 then .data ⟨(off - 0x200) / 4, by omega⟩
  else if ht : 0x400 ≤ off ∧ off < 0x400 + 4 * 256 then .txbuf ⟨(off - 0x400) / 4, by omega⟩
  else if hr : 0x800 ≤ off ∧ off < 0x800 + 4 * 256 then .rxbuf ⟨(off - 0x800) / 4, by omega⟩
  else .unmapped

/-- The sixteen registers at 0x000 to 0x03C, by word number (R21). -/
def controlAt (n : Nat) : Reg :=
  match n with
  | 0 => .ctrl
  | 1 => .status
  | 2 => .cmd
  | 3 => .slave
  | 4 => .addr
  | 5 => .arg
  | 6 => .err
  | 7 => .rxcnt
  | 8 => .cfgBaud
  | 9 => .cfgLine
  | 10 => .cfgTimeout
  | 11 => .cfgRts
  | 12 => .cfgRtsDelay
  | 13 => .txlen
  | 14 => .explen
  | 15 => .timer
  | _ => .unmapped

/-- The register map (R21), for offsets that are multiples of 4. -/
def regAt (off : Nat) : Reg := if off < 0x040 then controlAt (off / 4) else bufferAt off

/-- The accesses that are performed: 32 bits wide, aligned, inside the window (R62). -/
def accessLegal (off size : Nat) : Bool := size == 4 && off % 4 == 0 && decide (off < 0x1000)

/-- The value a read returns (R22 to R43, R63, R66). -/
def readReg (r : Reg) (s : State) : Word :=
  match r with
  | .ctrl => flagAt 0 s.ie
  | .status => statusWord s
  | .cmd => s.cmd
  | .slave => s.slave
  | .addr => s.addr
  | .arg => s.arg
  | .err => errWord s
  | .rxcnt => s.rxCnt.setWidth 32
  | .cfgBaud => s.cfgBaud
  | .cfgLine => s.cfgLine
  | .cfgTimeout => s.cfgTimeout
  | .cfgRts => s.cfgRts
  | .cfgRtsDelay => s.cfgRtsDelay
  | .txlen => s.txLen.setWidth 32
  | .explen => s.expLen.setWidth 32
  | .timer => s.timer
  | .data i => s.data[i].setWidth 32
  | .txbuf i => s.txbuf[i].setWidth 32
  | .rxbuf i => s.rxbuf[i].setWidth 32
  | .unmapped => 0

/-- `HostRead(off)`: the value of a read (R63). -/
def hostRead (off size : Nat) (s : State) : State :=
  if accessLegal off size then { s with bus := .data (readReg (regAt off) s) } else { s with bus := .busError }

end Sys2Proof.Machine
end

