-- ==== Sys2Proof/Machine/HostAccess.lean ====
section
/-!
DEFINITION. Host writes (R64): the write rule of each register, and `Start(v)`, the effect of a write of `CMD`
(R226, R228).
-/

namespace Sys2Proof.Machine

/-- The writes of an accepted `CMD` write before the command itself runs: `done <- 0 ; err_code <- 0 ;
err_exc <- 0 ; CMD <- v` (R226). -/
def accept (v : Word) (s : State) : State := { s with done := false, errCode := 0, errExc := 0, cmd := v }

/-- `Start(v)` (R226): refused while busy (R228), an InvalidArgument for an illegal word (R81, R83), else the
command. -/
def start (v : Word) (s : State) : Host.Outcome State Fault Refusal :=
  if s.busy then .next { s with rej := true }
  else
    match decode v with
    | .error _ => .next (complete .invalidArgument 0 (accept v s))
    | .ok i => exec i (accept v s)

/-- The write rule of the five `CFG_*` registers (R35): stored while closed, refused with `rej` while open. -/
def configWrite (store : State) (s : State) : State := if s.isOpen then { s with rej := true } else store

/-- The implemented mask of `CFG_LINE` (R36). -/
def cfgLineMask : Word := 0x0000001F

/-- The implemented mask of `CFG_RTS` (R39). -/
def cfgRtsMask : Word := 0x0000FF03

/-- The dispatch of a write (R64). -/
def writeReg (r : Reg) (v : Word) (s : State) : Host.Outcome State Fault Refusal :=
  match r with
  | .ctrl => .next { s with ie := v.getLsbD 0 }
  | .status => .next (acknowledge v s)
  | .cmd => start v s
  | .slave => .next { s with slave := v }
  | .addr => .next { s with addr := v }
  | .arg => .next { s with arg := v }
  | .cfgBaud => .next (configWrite { s with cfgBaud := v } s)
  | .cfgLine => .next (configWrite { s with cfgLine := v &&& cfgLineMask } s)
  | .cfgTimeout => .next (configWrite { s with cfgTimeout := v } s)
  | .cfgRts => .next (configWrite { s with cfgRts := v &&& cfgRtsMask } s)
  | .cfgRtsDelay => .next (configWrite { s with cfgRtsDelay := v } s)
  | .data i => .next { s with data := s.data.set i.val (v.setWidth 16) }
  | .err | .rxcnt | .txlen | .explen | .timer | .txbuf _ | .rxbuf _ | .unmapped => .next s

/-- `HostWrite(off, v)` (R62, R64). -/
def hostWrite (off size : Nat) (v : Word) (s : State) : Host.Outcome State Fault Refusal :=
  if accessLegal off size then writeReg (regAt off) v { s with bus := .ack }
  else .next { s with bus := .busError }

end Sys2Proof.Machine
end

