-- ==== Sys2Proof/Machine/Sequencer.lean ====
section
/-!
DEFINITION. The sequencer (R150): what `Tick`, `TxAccept`, `RxByte`, `IoFault` and `Reset` do.
-/

namespace Sys2Proof.Machine

/-- One decrement of `timer`, and what happens when it reaches 0 (R156, R162, R167).  With `timer` already 0, which
R52 (e) and (f) exclude in a timed phase, the model stops (R47; log 7). -/
def countDown (reached : State → State) (s : State) : Host.Outcome State Fault Refusal :=
  if s.timer = 0 then .fault .timerUnderflow
  else if s.timer - 1 = 0 then .next (reached { s with timer := s.timer - 1 })
  else .next { s with timer := s.timer - 1 }

/-- `Tick` (R165). -/
def tick (s : State) : Host.Outcome State Fault Refusal :=
  match s.phase with
  | .idle | .tx => .next s
  | .pre => countDown enterTx s
  | .post => countDown enterRx s
  | .rx => countDown expire s

/-- After the last byte of the frame has been handed over: POST, or RX (R158). -/
def frameSent (s : State) : State :=
  if rtsEnabled s = true ∧ s.cfgRtsDelay ≠ 0 then enterDelay .post s else enterRx s

/-- The byte `TXBUF[tx_idx]` is handed to the serializer (R158). -/
def handOver (b : Byte) (s : State) : State :=
  let sent := emit (.tx b) { s with txIdx := s.txIdx + 1 }
  if sent.txIdx = sent.txLen then frameSent sent else sent

/-- `TxAccept` (R158, R159). -/
def txAccept (s : State) : Host.Outcome State Fault Refusal :=
  if s.phase = .tx then
    if h : s.txIdx.toNat < 256 then .next (handOver s.txbuf[s.txIdx.toNat] s) else .fault .txIndexBeyondBuffer
  else .next s

/-- `TXBUF[0..tx_len-1]`, the request frame (R172). -/
def sentFrame (s : State) : List Byte := s.txbuf.toList.take s.txLen.toNat

/-- `RXBUF[0..rx_cnt-1]`, the bytes collected (R172). -/
def receivedFrame (s : State) : List Byte := s.rxbuf.toList.take s.rxCnt.toNat

/-- `Finish` (R172). -/
def finish (s : State) : State :=
  match decodeResponse s.rq (sentFrame s) (receivedFrame s) with
  | .err code exc => complete code exc s
  | .ok d => complete .success 0 (writeBack d s)

/-- The exception-length revision (R171): at the second byte, if `RXBUF[1]` has bit 7 set. -/
def reviseLength (s : State) : State :=
  if s.rxCnt = 2 ∧ s.rxbuf[1].getLsbD 7 = true then { s with expLen := 5 } else s

/-- The byte is stored and counted (R170), the expected length revised (R171). -/
def collect (b : Byte) (s : State) (h : s.rxCnt.toNat < 256) : State :=
  reviseLength { s with rxbuf := s.rxbuf.set s.rxCnt.toNat b, rxCnt := s.rxCnt + 1 }

/-- `RxByte(b)` (R163, R170, R173). -/
def rxByte (b : Byte) (s : State) : Host.Outcome State Fault Refusal :=
  if s.phase = .rx then
    if h : s.rxCnt.toNat < 256 then
      if (collect b s h).rxCnt = (collect b s h).expLen then .next (finish (collect b s h))
      else .next (collect b s h)
    else .fault .rxCountBeyondBuffer
  else .next s

/-- `IoFault` (R174). -/
def ioFault (s : State) : State := if s.busy then complete .ioError 0 s else s

/-- `Reset` (R280): every element at its value of R53, the arbitrary contents of R281 drawn anew (log 2), and
`Pin(Z)` emitted if the pin was driven.  The environment's side is kept: its pending events, the trace so far,
the latest bus answer, the input pin and the platform's baud list. -/
def resetBlock (s : State) : State :=
  { State.reset with
    data := drawnData s.draws
    txbuf := drawnTx s.draws
    rxbuf := drawnRx s.draws
    rq := Config.drawRequest s.draws
    inputs := s.inputs
    trace := if s.deDrv then s.trace ++ [.pin .z] else s.trace
    bus := s.bus
    portOk := s.portOk
    baudRefused := s.baudRefused
    draws := s.draws + 1 }

end Sys2Proof.Machine
end

