-- ==== Sys2Proof/Machine/Events.lean ====
section
/-!
DEFINITION. The step of one event (R9), and the order in which events of one clock cycle are applied (R10).
-/

namespace Sys2Proof.Machine

/-- `Step` of R9 for one event.  The output actions are appended to `trace` (R11). -/
def applyEvent (e : Event) (s : State) : Host.Outcome State Fault Refusal :=
  match e with
  | .reset => .next (resetBlock s)
  | .ioFault => .next (ioFault s)
  | .rxByte b => rxByte b s
  | .txAccept => txAccept s
  | .tick => tick s
  | .hostWrite off size v => hostWrite off size v s
  | .hostRead off size => .next (hostRead off size s)
  | .portOk level => .next { s with portOk := level }

/-- The events the hardware sees in one clock cycle (R10). -/
structure CycleEvents where
  reset     : Bool := false
  ioFault   : Bool := false
  rxByte    : Option Byte := none
  txAccept  : Bool := false
  tick      : Bool := false
  /-- Offset, size and value. -/
  hostWrite : Option (Nat × Nat × Word) := none
  /-- Offset and size. -/
  hostRead  : Option (Nat × Nat) := none
  deriving DecidableEq, Repr

/-- The fixed order of one cycle's events: `Reset`, `IoFault`, `RxByte`, `TxAccept`, `Tick`, `HostWrite`,
`HostRead` (R10). -/
def serialise (c : CycleEvents) : List Event :=
  (if c.reset then [.reset] else []) ++ (if c.ioFault then [.ioFault] else []) ++
    (c.rxByte.map Event.rxByte).toList ++ (if c.txAccept then [.txAccept] else []) ++
    (if c.tick then [.tick] else []) ++
    (c.hostWrite.map fun w => Event.hostWrite w.1 w.2.1 w.2.2).toList ++
    (c.hostRead.map fun r => Event.hostRead r.1 r.2).toList

/-- The events of one cycle become the next pending events, in the order of R10. -/
def State.withCycle (s : State) (c : CycleEvents) : State := { s with inputs := serialise c ++ s.inputs }

end Sys2Proof.Machine
end

