-- ==== Sys2Proof/Machine/Step.lean ====
section
/-!
DEFINITION. One step: the oldest pending event is applied (R9).  The block never moves by itself (R9), so with no
event pending the step leaves the state as it is (log 1).
-/

namespace Sys2Proof.Machine

/-- One atomic step (R9). -/
def step (s : State) : Host.Outcome State Fault Refusal :=
  match s.inputs with
  | [] => .next s
  | e :: rest => applyEvent e { s with inputs := rest }

/-- The instruction whose bits are `w` placed where `step` takes its next instruction from: a pending host write of
the word to `CMD` (R29, R81), before every other pending event.  The block fetches no instructions (R61); a
program is the host's sequence of writes (R98; log 1).  While `busy = 1` the block itself refuses any `CMD`
write (R228). -/
def State.withFetchWord (s : State) (nbits w : Nat) : State :=
  { s with inputs := .hostWrite 0x008 4 (BitVec.ofNat 32 (w % 2 ^ nbits)) :: s.inputs }

end Sys2Proof.Machine
end

