-- ==== Sys2Proof/Machine/Assembler.lean ====
section
/-!
DEFINITION. Lines of a host program and their expansions into host accesses (R98, R99).  A line is what the host
does to the block; the block itself only sees the accesses.
-/

namespace Sys2Proof.Machine

/-- `wr REG, value` at an offset (R98). -/
def wr (off : Nat) (v : Word) : Event := .hostWrite off 4 v

/-- `rd REG` at an offset (R98). -/
def rd (off : Nat) : Event := .hostRead off 4

/-- The value operand of D0's host operation "write-register": one 16-bit value or a sequence of them (R99). -/
inductive RegisterValue where
  | single (v : Half)
  | sequence (vs : List Half)
  deriving DecidableEq, Repr

/-- A line of a host program (R98, R99).  `WAIT` is a loop of the host over `poll`. -/
inductive Line where
  | selslv (slave : Word)
  | rdcoil (slave addr count : Word)
  | rdireg (slave addr count : Word)
  | rdhreg (slave addr count : Word)
  | wrcoil (slave addr value : Word)
  | wrreg (slave addr value : Word)
  | wrregs (slave addr : Word) (values : List Half)
  | writeRegister (slave addr : Word) (value : RegisterValue)
  | writeCoil (slave addr value : Word)
  | openPort
  | closePort
  /-- One `rd STATUS` of the loop of `WAIT`. -/
  | poll
  deriving DecidableEq, Repr

/-- The mapping of the host layer's RTS letters to `CFG_RTS.MODE`: N disabled, U active-high, D active-low, the
default of R6 (U1, D13).  It is host software: the host writes MODE directly (R39). -/
def rtsModeOfLetter (c : Char) : Option (BitVec 2) :=
  if c = 'N' then some 0 else if c = 'U' then some 1 else if c = 'D' then some 2 else none

/-- `wr SLAVE, s; wr ADDR, a; wr ARG, x; wr CMD, op` (R99). -/
def issue (slave addr arg op : Word) : List Event :=
  [wr 0x00C slave, wr 0x010 addr, wr 0x014 arg, wr 0x008 op]

/-- `wr DATA[i], vi` for each i, from `i` on (R99). -/
def writeData : Nat → List Half → List Event
  | _, [] => []
  | i, v :: vs => wr (0x200 + 4 * i) (v.setWidth 32) :: writeData (i + 1) vs

/-- `WRREGS s, a, [v0..v(n-1)]` (R99). -/
def issueWrregs (slave addr : Word) (values : List Half) : List Event :=
  writeData 0 values ++ issue slave addr (BitVec.ofNat 32 values.length) 6

/-- The expansion of a line (R99). -/
def expand : Line → List Event
  | .selslv s => [wr 0x00C s]
  | .rdcoil s a c => issue s a c 1
  | .rdireg s a c => issue s a c 2
  | .rdhreg s a c => issue s a c 3
  | .wrcoil s a b => issue s a b 4
  | .wrreg s a v => issue s a v 5
  | .wrregs s a vs => issueWrregs s a vs
  | .writeRegister s a (.single v) => issue s a (v.setWidth 32) 5
  | .writeRegister s a (.sequence vs) => issueWrregs s a vs
  | .writeCoil s a b => issue s a b 4
  | .openPort => [wr 0x008 8]
  | .closePort => [wr 0x008 9]
  | .poll => [rd 0x004]

end Sys2Proof.Machine
end

