-- ==== Sys2Proof/Machine/Outputs.lean ====
section
/-!
DEFINITION. The outputs that are plain functions of the state (R11): the interrupt line (R255), what is presented
to the serializer (R157, R159), the line parameters (R36) and the pin selector (R39).  `de_pin` is `dePin`.
-/

namespace Sys2Proof.Machine

/-- `irq = done and ie` (R255). -/
def irq (s : State) : Bool := s.done && s.ie

/-- `tx_valid`: a byte is presented exactly in TX (R157, R159). -/
def txValid (s : State) : Bool := s.phase == .tx

/-- `tx_data = TXBUF[tx_idx]` while `tx_valid` (R157). -/
def txData (s : State) : Option Byte := if txValid s then s.txbuf.toList[s.txIdx.toNat]? else none

/-- `line_baud` (R36). -/
def lineBaudOut (s : State) : Word := s.cfgBaud

/-- `line_dbits` (R36). -/
def lineDbitsOut (s : State) : BitVec 2 := lineDbits s

/-- `line_parity` (R36). -/
def lineParityOut (s : State) : BitVec 2 := lineParity s

/-- `line_stop2` (R36). -/
def lineStop2Out (s : State) : Bool := lineStop2 s

/-- `rts_pin_sel` (R39). -/
def rtsPinSelOut (s : State) : Byte := rtsPin s

end Sys2Proof.Machine
end

