-- ==== Sys2Proof/Machine/Platform.lean ====
section
/-!
DEFINITION. Several instances side by side (R268): one MBRTU instance per serial port, sharing no state.
-/

namespace Sys2Proof.Machine

/-- The instances of a platform (R268). -/
abbrev Platform := List State

/-- One step of the instance `k`; the others stay as they are (R268).  There is no instance beyond the list, so
nothing happens for such a `k`. -/
def platformStep (k : Nat) (p : Platform) : Host.Outcome Platform Fault Refusal :=
  match p[k]? with
  | none => .next p
  | some s =>
    match step s with
    | .next t => .next (p.set k t)
    | .fault f => .fault f
    | .refused r => .refused r

end Sys2Proof.Machine
end

