-- ==== Sys2Proof/Safety.lean ====
section
/-!
DEFINITION. What a safe state is: the invariant of the block (R52 with what its own rules add), the order of the
output actions within an exchange (R176), and the wording of frames, so that claims can be stated in these terms.
-/

namespace Sys2Proof.Safety

open Sys2Proof.Machine

/-- The phases in which the request is still on its way: PRE, TX, POST. -/
abbrev sending (p : Phase) : Prop := p = .pre ∨ p = .tx ∨ p = .post

/-- The invariant of the block.  The first nine fields are R52 (a) to (i), in its order; the others are the bounds
and agreements that the rules cited give every reachable state and that the first nine need to be kept. -/
structure Inv (s : State) : Prop where
  /-- R52 (a). -/
  busy_iff_phase : s.busy = true ↔ s.phase ≠ .idle
  /-- R52 (b). -/
  busy_open : s.busy = true → s.isOpen = true
  /-- R52 (c). -/
  de_in_window : s.de = true → sending s.phase ∧ rtsEnabled s = true
  /-- R52 (d). -/
  de_drv_iff : s.deDrv = true ↔ s.isOpen = true ∧ rtsEnabled s = true
  /-- R52 (e). -/
  delay_running : s.phase = .pre ∨ s.phase = .post → 1 ≤ s.timer.toNat ∧ rtsEnabled s = true
  /-- R52 (f). -/
  receiving : s.phase = .rx →
    1 ≤ s.timer.toNat ∧ s.rxCnt.toNat < s.expLen.toNat ∧ 5 ≤ s.expLen.toNat ∧ s.expLen.toNat ≤ 255
  /-- R52 (g). -/
  transmitting : s.phase = .tx → s.txIdx.toNat < s.txLen.toNat ∧ 8 ≤ s.txLen.toNat ∧ s.txLen.toNat ≤ 255
  /-- R52 (h). -/
  done_not_busy : s.done = true → s.busy = false
  /-- R52 (i). -/
  exc_only_exception : s.errExc ≠ 0 → s.errCode = 8
  /-- The line is asserted throughout the transmit window (R152, R158, R162). -/
  window_asserted : sending s.phase → rtsEnabled s = true → s.de = true
  /-- An open block has a legal configuration (R222, R35). -/
  open_legal : s.isOpen = true → legalConfig s = true
  /-- The request in flight has passed `ValidArgs` (R196, R197). -/
  request_valid : s.busy = true → s.rq.slave.toNat ≤ 247 ∧ argInRange s.rq.op s.rq.arg.toNat = true
  /-- `TXBUF` holds a frame of the request in flight (R197, R43). -/
  frame_in_buffer : s.busy = true → ∃ data : Vector Half 125, sentFrame s = requestFrame s.rq data
  /-- `tx_len` is the length of that frame (R94). -/
  frame_length : s.busy = true → s.txLen.toNat = txLenOf s.rq.op s.rq.arg.toNat
  /-- `exp_len` is the normal response length until the response has begun (R95, R197). -/
  expected_length : sending s.phase → s.expLen.toNat = expLenOf s.rq.op s.rq.arg.toNat
  /-- In RX it is that length, or 5 once the second byte has bit 7 set (R171). -/
  expected_length_rx : s.phase = .rx → s.expLen.toNat = expLenOf s.rq.op s.rq.arg.toNat ∨
    (s.expLen.toNat = 5 ∧ 2 ≤ s.rxCnt.toNat ∧ s.rxbuf[1].getLsbD 7 = true)
  /-- R48: the counters stay in their ranges. -/
  counters : s.txIdx.toNat ≤ s.txLen.toNat ∧ s.txLen.toNat ≤ 255 ∧ s.rxCnt.toNat ≤ s.expLen.toNat ∧
    s.expLen.toNat ≤ 255
  /-- R243, R249: codes 10 to 255 are never produced. -/
  code_range : s.errCode.toNat ≤ 9
  /-- R36: bits outside the mask of `CFG_LINE` read as 0. -/
  line_masked : s.cfgLine &&& cfgLineMask = s.cfgLine
  /-- R39: bits outside the mask of `CFG_RTS` read as 0. -/
  rts_masked : s.cfgRts &&& cfgRtsMask = s.cfgRts

/-- The asserted level of the pin: 1 for MODE 1, 0 for MODE 2 (R176). -/
def assertedLevel (s : State) : PinLevel := if rtsMode s = 1 then .high else .low

/-- The de-asserted level of the pin: the other one (R176). -/
def releasedLevel (s : State) : PinLevel := if rtsMode s = 1 then .low else .high

/-- The first `n` bytes of the request frame as `Tx` actions. -/
def txActions (s : State) (n : Nat) : List Action := (s.txbuf.toList.take n).map Action.tx

/-- The actions the exchange in flight has emitted so far (R176): the pin asserted if RTS is enabled, the bytes
handed over in frame order, and, once in RX, the pin released. -/
def exchangeActions (s : State) : List Action :=
  match s.phase with
  | .idle => []
  | .pre => if rtsEnabled s then [.pin (assertedLevel s)] else []
  | .tx => (if rtsEnabled s then [.pin (assertedLevel s)] else []) ++ txActions s s.txIdx.toNat
  | .post => (if rtsEnabled s then [.pin (assertedLevel s)] else []) ++ txActions s s.txLen.toNat
  | .rx =>
      (if rtsEnabled s then [.pin (assertedLevel s)] else []) ++ txActions s s.txLen.toNat ++
        (if rtsEnabled s then [.pin (releasedLevel s)] else [])

/-- The output trace ends with exactly the actions of the exchange in flight, in the order of R176. -/
def TraceInOrder (s : State) : Prop := ∃ before, s.trace = before ++ exchangeActions s

/-! ## The wording of claims -/

/-- Byte `k` of a register, byte 0 the low one (R7). -/
def byteOf (w : Word) (k : Nat) : Byte := w.extractLsb' (8 * k) 8

/-- A frame: the bytes before the CRC, then the CRC low byte first (R85, R113). -/
def withCrc (body : List Byte) : List Byte :=
  body ++ [(crc16 body).extractLsb' 0 8, (crc16 body).extractLsb' 8 8]

/-- The command of a bus operation (R82). -/
def commandOf : BusOp → Instr
  | .rdcoil => .rdcoil
  | .rdireg => .rdireg
  | .rdhreg => .rdhreg
  | .wrcoil => .wrcoil
  | .wrreg => .wrreg
  | .wrregs => .wrregs

/-- The bounds of R84 and R196 on the full 32-bit registers. -/
def ArgsLegal (op : BusOp) (s : State) : Prop :=
  s.slave.toNat ≤ 247 ∧ s.addr.toNat ≤ 0xFFFF ∧
    match op with
    | .rdcoil => 1 ≤ s.arg.toNat ∧ s.arg.toNat ≤ 2000
    | .rdireg | .rdhreg => 1 ≤ s.arg.toNat ∧ s.arg.toNat ≤ 125
    | .wrcoil => s.arg.toNat ≤ 1
    | .wrreg => s.arg.toNat ≤ 0xFFFF
    | .wrregs => 1 ≤ s.arg.toNat ∧ s.arg.toNat ≤ 123

/-- The request latched from `SLAVE`, `ADDR`, `ARG` (R45, R197). -/
def requestOf (op : BusOp) (s : State) : Request where
  op := op
  slave := s.slave.extractLsb' 0 8
  addr := s.addr.extractLsb' 0 16
  arg := s.arg.extractLsb' 0 16

/-- `t` is `s` with the exchange of a bus command begun (R152, R197): the request latched, `frame` in `TXBUF` from
byte 0 on, its length and the expected length set, the line asserted if RTS is enabled, and the sequencer in PRE
or TX.  Every other field is that of `s`, and so is every byte of `TXBUF` beyond the frame. -/
def ExchangeStarted (s t : State) (op : BusOp) (frame : List Byte) (expected : Nat) : Prop :=
  t = { s with
    rq := requestOf op s
    txbuf := t.txbuf
    txLen := BitVec.ofNat 9 frame.length
    expLen := BitVec.ofNat 9 expected
    busy := true
    txIdx := 0
    rxCnt := 0
    de := rtsEnabled s
    phase := if rtsEnabled s = true ∧ s.cfgRtsDelay ≠ 0 then .pre else .tx
    timer := if rtsEnabled s = true ∧ s.cfgRtsDelay ≠ 0 then s.cfgRtsDelay else s.timer
    trace := s.trace ++ if rtsEnabled s then [.pin (assertedLevel s)] else [] } ∧
  (∀ (i : Nat) (h : i < 256), t.txbuf[i] = if h' : i < frame.length then frame[i] else s.txbuf[i])

/-- `s` with its command completed with an error code and an exception code (R250): the line released if it was
asserted, nothing else written. -/
def completed (s : State) (code exc : Byte) : State :=
  { s with
    de := false
    busy := false
    phase := .idle
    errCode := code
    errExc := exc
    done := true
    trace := s.trace ++ if s.de then [.pin (releasedLevel s)] else [] }

/-- `s` with the receiver enabled (R166): the line released if it was asserted, the timeout started; with
`CFG_TIMEOUT = 0` the exchange ends at once with NoResponseError (R169). -/
def receiverEnabled (s : State) : State :=
  let waiting :=
    { s with
      de := false
      phase := .rx
      rxCnt := 0
      timer := s.cfgTimeout
      trace := s.trace ++ if s.de then [.pin (releasedLevel s)] else [] }
  if s.cfgTimeout = 0 then completed waiting 4 0 else waiting

/-- The reset values of R53, and `de_pin` not driven.  `DATA`, `TXBUF`, `RXBUF` and `rq` are arbitrary (R281). -/
def AfterReset (s : State) : Prop :=
  s.ie = false ∧ s.isOpen = false ∧ s.busy = false ∧ s.done = false ∧ s.rej = false ∧ s.de = false ∧
  s.deDrv = false ∧ dePin s = .z ∧ s.phase = .idle ∧ s.timer = 0 ∧ s.txIdx = 0 ∧ s.txLen = 0 ∧ s.rxCnt = 0 ∧
  s.expLen = 0 ∧ s.errCode = 0 ∧ s.errExc = 0 ∧ s.cmd = 0 ∧ s.slave = 0 ∧ s.addr = 0 ∧ s.arg = 0 ∧
  s.cfgBaud = 0 ∧ s.cfgLine = 0x03 ∧ s.cfgTimeout = 3000000 ∧ s.cfgRts = 0 ∧ s.cfgRtsDelay = 0

/-- `s` with the events `es` pending and nothing after them. -/
def withEvents (s : State) (es : List Event) : State := { s with inputs := es }

/-- `s` with the event `e` applied leads to `t`. -/
def Leads (s : State) (e : Event) (t : State) : Prop := applyEvent e s = .next t

/-- What is not accepted gets its error (R123 to R127, R130, R136): `answer` is what the decoder answers for `f`, and
`accepted` says that `f` is a frame it accepts.  A short frame is a FramingError; then a CRC mismatch is a
ChecksumError; then a frame with bit 7 of its function code set is an ExceptionError with its third byte, whatever
its slave and function, or a FramingError without that byte; any other frame not accepted is a FramingError. -/
def RejectedResponse (answer : Decoded) (f : List Byte) (accepted : Prop) : Prop :=
  (f.length < 4 → answer = .err .framingError 0) ∧
  (∀ (body : List Byte) (lo hi : Byte), f = body ++ [lo, hi] → 2 ≤ body.length → crc16 body ≠ hi ++ lo →
    answer = .err .checksumError 0) ∧
  (∀ (slave fc exc : Byte) (rest : List Byte), fc.getLsbD 7 = true → f = withCrc (slave :: fc :: exc :: rest) →
    answer = .err .exceptionError exc) ∧
  (∀ slave fc : Byte, fc.getLsbD 7 = true → f = withCrc [slave, fc] → answer = .err .framingError 0) ∧
  (∀ (slave fc : Byte) (rest : List Byte), fc.getLsbD 7 = false → f = withCrc (slave :: fc :: rest) →
    ¬ accepted → answer = .err .framingError 0)

/-- The events that the line and the time base bring to a waiting receiver. -/
def isTickOrByte : Event → Bool
  | .tick => true
  | .rxByte _ => true
  | _ => false

/-- The bytes that arrive in a list of events, in order. -/
def bytesIn (es : List Event) : List Byte :=
  es.filterMap fun e =>
    match e with
    | .rxByte b => some b
    | _ => none

/-- How many bytes a receiver in `s` expects once `es` has arrived: `exp_len`, or 5 if the second byte of the response
is among them with bit 7 set (R171). -/
def expectedAfter (s : State) (es : List Event) : Nat :=
  if s.rxCnt.toNat < 2 then
    match (bytesIn es)[1 - s.rxCnt.toNat]? with
    | some b => if b.getLsbD 7 then 5 else s.expLen.toNat
    | none => s.expLen.toNat
  else s.expLen.toNat

end Sys2Proof.Safety
end

