-- ==== Sys2Proof/Certificates/Slice0/Obligations.lean ====
section
/-!
DEFINITION. The statements about the model, for the provers.  Each docstring names the rule or section of the spec
it formalises.  Free values (the draws of R281) are never fixed: a statement about `DATA`, `TXBUF`, `RXBUF` or `rq`
holds for every value of them.
-/

open Sys2Proof Sys2Proof.Machine Sys2Proof.Safety

/-! ## Encoding -/

/-- The command words of R82, written out bit by bit (30_encoding.md section 1). -/
def Obligations.CommandWordsDecode : Prop :=
  decode 0b00000000000000000000000000000001#32 = .ok .rdcoil ∧
  decode 0b00000000000000000000000000000010#32 = .ok .rdireg ∧
  decode 0b00000000000000000000000000000011#32 = .ok .rdhreg ∧
  decode 0b00000000000000000000000000000100#32 = .ok .wrcoil ∧
  decode 0b00000000000000000000000000000101#32 = .ok .wrreg ∧
  decode 0b00000000000000000000000000000110#32 = .ok .wrregs ∧
  decode 0b00000000000000000000000000001000#32 = .ok .openPort ∧
  decode 0b00000000000000000000000000001001#32 = .ok .closePort

/-- Decoding inverts encoding, and each command has exactly one word (30_encoding.md section 1). -/
def Obligations.DecodeAndEncodeAgree : Prop :=
  (∀ i : Instr, decode (encode i) = .ok i) ∧ ∀ (w : Word) (i : Instr), decode w = .ok i → w = encode i

/-- R83: every reserved word, in an idle block, is an InvalidArgument and nothing else changes: only `CMD`, `ERR`
and `done` are written, so nothing of `open`, `TXBUF`, `rq`, `DATA` or the trace. -/
def Obligations.ReservedWordsAreInvalidArgument : Prop :=
  ∀ (s : State) (w : Word), Inv s → s.busy = false →
    (w.extractLsb' 4 28 ≠ 0 ∨
      w.extractLsb' 0 4 ∈ [0x0#4, 0x7#4, 0xA#4, 0xB#4, 0xC#4, 0xD#4, 0xE#4, 0xF#4]) →
    Leads s (.hostWrite 0x008 4 w)
      { s with bus := .ack, cmd := w, errCode := 2, errExc := 0, done := true }

/-! ## Steps and the start of a command -/

/-- A step applies the oldest pending event, and leaves the state as it is when none is pending
(00_scope.md section 6; the queue is the model's, log 1). -/
def Obligations.StepAppliesOldestEvent : Prop :=
  (∀ (s : State) (e : Event) (rest : List Event),
    step (withEvents s (e :: rest)) = applyEvent e (withEvents s rest)) ∧
  ∀ s : State, step (withEvents s []) = .next (withEvents s [])

/-- A step whose oldest event writes a command's word to `CMD` of a block that is not busy runs that command, on
the state with `done` and `ERR` cleared and `CMD` written (44_hub_lifecycle.md section 3). -/
def Obligations.StepRunsDecodedCommand : Prop :=
  ∀ (s : State) (w : Word) (i : Instr) (rest : List Event), s.busy = false → decode w = .ok i →
    step (withEvents s (.hostWrite 0x008 4 w :: rest)) =
      exec i { s with inputs := rest, bus := .ack, done := false, errCode := 0, errExc := 0, cmd := w }

/-- R228: a `CMD` write while busy sets `rej` and does nothing else. -/
def Obligations.CmdWriteWhileBusyIsRefused : Prop :=
  ∀ (s : State) (w : Word), s.busy = true →
    Leads s (.hostWrite 0x008 4 w) { s with bus := .ack, rej := true }

/-- Every `CMD` write to a block that is not busy ends, in its own step, completed or with an exchange started, and
`CMD` reads as written (44_hub_lifecycle.md section 3). -/
def Obligations.AcceptedCmdWriteEndsDoneOrBusy : Prop :=
  ∀ (s : State) (w : Word), Inv s → s.busy = false →
    ∃ t, Leads s (.hostWrite 0x008 4 w) t ∧ t.cmd = w ∧ t.rej = s.rej ∧
      ((t.done = true ∧ t.busy = false) ∨ (t.done = false ∧ t.busy = true))

/-! ## The eight commands -/

/-- RDCOIL, RDIREG and RDHREG with legal arguments on an open idle block begin their exchange: the request frame is
format Q4 with their function codes and the expected length that of format RR (43_rtu_master.md section 1). -/
def Obligations.ReadCommandsStartExchange : Prop :=
  ∀ s : State, Inv s → s.busy = false → s.isOpen = true →
    (ArgsLegal .rdcoil s → ∃ t, exec .rdcoil s = .next t ∧
      ExchangeStarted s t .rdcoil
        (withCrc [byteOf s.slave 0, 0x01, byteOf s.addr 1, byteOf s.addr 0, byteOf s.arg 1, byteOf s.arg 0])
        (5 + (s.arg.toNat + 7) / 8)) ∧
    (ArgsLegal .rdireg s → ∃ t, exec .rdireg s = .next t ∧
      ExchangeStarted s t .rdireg
        (withCrc [byteOf s.slave 0, 0x04, byteOf s.addr 1, byteOf s.addr 0, byteOf s.arg 1, byteOf s.arg 0])
        (5 + 2 * s.arg.toNat)) ∧
    (ArgsLegal .rdhreg s → ∃ t, exec .rdhreg s = .next t ∧
      ExchangeStarted s t .rdhreg
        (withCrc [byteOf s.slave 0, 0x03, byteOf s.addr 1, byteOf s.addr 0, byteOf s.arg 1, byteOf s.arg 0])
        (5 + 2 * s.arg.toNat))

/-- WRCOIL and WRREG with legal arguments on an open idle block begin their exchange: format Q4, the coil value
0xFF00 or 0x0000, and the 8-byte echo expected (43_rtu_master.md section 1). -/
def Obligations.SingleWritesStartExchange : Prop :=
  ∀ s : State, Inv s → s.busy = false → s.isOpen = true →
    (ArgsLegal .wrcoil s → ∃ t, exec .wrcoil s = .next t ∧
      ExchangeStarted s t .wrcoil
        (withCrc [byteOf s.slave 0, 0x05, byteOf s.addr 1, byteOf s.addr 0,
          if s.arg = 1 then 0xFF else 0x00, 0x00]) 8) ∧
    (ArgsLegal .wrreg s → ∃ t, exec .wrreg s = .next t ∧
      ExchangeStarted s t .wrreg
        (withCrc [byteOf s.slave 0, 0x06, byteOf s.addr 1, byteOf s.addr 0, byteOf s.arg 1, byteOf s.arg 0]) 8)

/-- WRREGS with legal arguments on an open idle block begins its exchange: format QM with the values of
`DATA[0..n-1]`, high byte first (43_rtu_master.md section 1). -/
def Obligations.WriteRegistersStartsExchange : Prop :=
  ∀ s : State, Inv s → s.busy = false → s.isOpen = true → ArgsLegal .wrregs s →
    ∃ t, exec .wrregs s = .next t ∧
      ExchangeStarted s t .wrregs
        (withCrc ([byteOf s.slave 0, 0x10, byteOf s.addr 1, byteOf s.addr 0, 0x00, byteOf s.arg 0,
            BitVec.ofNat 8 (2 * s.arg.toNat)] ++
          (s.data.toList.take s.arg.toNat).flatMap fun v => [v.extractLsb' 8 8, v.extractLsb' 0 8])) 8

/-- OPEN: a closed block with a legal configuration and a usable port opens, and drives the pin exactly if MODE, bits
1:0 of `CFG_RTS`, is 1 or 2, at its de-asserted level: 0 for MODE 1, 1 for MODE 2 (44_hub_lifecycle.md section 1,
10_state.md section 3). -/
def Obligations.OpenConnects : Prop :=
  ∀ s : State, Inv s → s.busy = false → s.isOpen = false →
    s.cfgBaud ≠ 0 → s.cfgBaud ∉ s.baudRefused → s.cfgLine.extractLsb' 2 2 ≠ 3#2 →
    s.cfgRts.extractLsb' 0 2 ≠ 3#2 → s.portOk = true →
    exec .openPort s = .next
      { s with
        isOpen := true
        deDrv := s.cfgRts.extractLsb' 0 2 == 1#2 || s.cfgRts.extractLsb' 0 2 == 2#2
        errCode := 0
        errExc := 0
        done := true
        trace := s.trace ++
          if s.cfgRts.extractLsb' 0 2 = 1#2 then [.pin .low]
          else if s.cfgRts.extractLsb' 0 2 = 2#2 then [.pin .high]
          else [] }

/-- OPEN on an open block succeeds and writes only `done` and `ERR`; on a closed one an illegal configuration is a
ConfigError, then a port that is not usable an IOError, and the block stays closed (44_hub_lifecycle.md
section 1). -/
def Obligations.OpenCornerCases : Prop :=
  ∀ s : State, Inv s → s.busy = false →
    (s.isOpen = true → exec .openPort s = .next { s with errCode := 0, errExc := 0, done := true }) ∧
    (s.isOpen = false →
      (s.cfgBaud = 0 ∨ s.cfgBaud ∈ s.baudRefused ∨ s.cfgLine.extractLsb' 2 2 = 3#2 ∨
        s.cfgRts.extractLsb' 0 2 = 3#2) →
      exec .openPort s = .next { s with errCode := 1, errExc := 0, done := true }) ∧
    (s.isOpen = false → s.cfgBaud ≠ 0 → s.cfgBaud ∉ s.baudRefused → s.cfgLine.extractLsb' 2 2 ≠ 3#2 →
      s.cfgRts.extractLsb' 0 2 ≠ 3#2 → s.portOk = false →
      exec .openPort s = .next { s with errCode := 5, errExc := 0, done := true })

/-- CLOSE on an idle block, open or not, succeeds: the block is closed, a driven pin is let go, and nothing else but
`done` and `ERR` changes (44_hub_lifecycle.md section 2). -/
def Obligations.CloseDisconnects : Prop :=
  ∀ s : State, Inv s → s.busy = false →
    exec .closePort s = .next
      { s with
        isOpen := false
        deDrv := false
        errCode := 0
        errExc := 0
        done := true
        trace := s.trace ++ if s.deDrv then [.pin .z] else [] }

/-- Each of the six bus commands whose arguments are out of range, on an open or a closed idle block, is an
InvalidArgument that writes only `done` and `ERR` (43_rtu_master.md section 2). -/
def Obligations.BadArgumentsNeverReachTheWire : Prop :=
  ∀ (op : BusOp) (s : State), Inv s → s.busy = false → ¬ ArgsLegal op s →
    exec (commandOf op) s = .next { s with errCode := 2, errExc := 0, done := true }

/-- R227: each of the six bus commands with legal arguments on a closed block is a ClosedError that performs no I/O
and writes only `done` and `ERR`. -/
def Obligations.ClosedBlockAnswersClosedError : Prop :=
  ∀ (op : BusOp) (s : State), Inv s → s.isOpen = false → ArgsLegal op s →
    exec (commandOf op) s = .next { s with errCode := 9, errExc := 0, done := true }

/-! ## The sequencer -/

/-- R156: `Tick` in PRE. -/
def Obligations.TickInPre : Prop :=
  ∀ s : State, s.phase = .pre → 1 ≤ s.timer.toNat →
    Leads s .tick
      (if s.timer = 1 then { s with timer := 0, phase := .tx, txIdx := 0 }
       else { s with timer := s.timer - 1 })

/-- R162: `Tick` in POST; when the post-delay ends the receiver is enabled in the same step. -/
def Obligations.TickInPost : Prop :=
  ∀ s : State, Inv s → s.phase = .post →
    Leads s .tick (if s.timer = 1 then receiverEnabled s else { s with timer := s.timer - 1 })

/-- `Tick` in RX counts the timeout down, and its end is a NoResponseError without a byte and a TimeoutError with
some; `RXBUF`, `RXCNT` and `DATA` keep their values (42_serial_transport.md section 5). -/
def Obligations.TickInRx : Prop :=
  ∀ s : State, Inv s → s.phase = .rx →
    Leads s .tick
      (if s.timer = 1 then completed { s with timer := 0 } (if s.rxCnt = 0 then 4 else 3) 0
       else { s with timer := s.timer - 1 })

/-- `Tick` in IDLE and TX, and `RxByte` in IDLE, PRE, TX and POST, change nothing and emit nothing
(42_serial_transport.md sections 4 and 5). -/
def Obligations.TicksAndBytesOutsideTheirPhases : Prop :=
  ∀ (s : State) (b : Byte),
    (s.phase = .idle ∨ s.phase = .tx → Leads s .tick s) ∧ (s.phase ≠ .rx → Leads s (.rxByte b) s)

/-- R159: `TxAccept` in any phase other than TX has no effect, and the block shows `tx_valid = 0` there. -/
def Obligations.TxAcceptOutsideTx : Prop :=
  ∀ s : State, s.phase ≠ .tx → Leads s .txAccept s ∧ txValid s = false

/-- `TxAccept` in TX hands over the byte presented; after the last one the sequencer is in POST if there is a
post-delay to wait, else the receiver is enabled at once (42_serial_transport.md section 3). -/
def Obligations.TxAcceptHandsOverOneByte : Prop :=
  ∀ s : State, Inv s → s.phase = .tx →
    ∃ b, txData s = some b ∧
      Leads s .txAccept
        (let sent := { s with txIdx := s.txIdx + 1, trace := s.trace ++ [.tx b] }
         if s.txIdx + 1 ≠ s.txLen then sent
         else if rtsEnabled s = true ∧ s.cfgRtsDelay ≠ 0 then
           { sent with phase := .post, timer := s.cfgRtsDelay }
         else receiverEnabled sent)

/-- R170 and R172: a byte in RX is stored and counted, the second one with bit 7 set revises the expected length to
5, and the byte that completes the frame completes the command with the decoder's verdict: FramingError is written
as 6, ChecksumError as 7, ExceptionError as 8 with the exception code `RXBUF[2]`, and `DATA` is written only on
success. -/
def Obligations.RxByteCollectsAndFinishes : Prop :=
  ∀ (s : State) (b : Byte), Inv s → s.phase = .rx →
    ∃ t : State,
      t = { s with
        rxbuf := t.rxbuf
        rxCnt := s.rxCnt + 1
        expLen := if s.rxCnt = 1 ∧ b.getLsbD 7 = true then 5 else s.expLen } ∧
      (∀ (i : Nat) (h : i < 256), t.rxbuf[i] = if i = s.rxCnt.toNat then b else s.rxbuf[i]) ∧
      (t.rxCnt ≠ t.expLen → Leads s (.rxByte b) t) ∧
      (t.rxCnt = t.expLen →
        ∃ verdict,
          verdict =
            decodeResponse t.rq (t.txbuf.toList.take t.txLen.toNat) (t.rxbuf.toList.take t.rxCnt.toNat) ∧
          (verdict = .err .framingError 0 ∧ Leads s (.rxByte b) (completed t 6 0) ∨
            verdict = .err .checksumError 0 ∧ Leads s (.rxByte b) (completed t 7 0) ∨
            verdict = .err .exceptionError t.rxbuf[2] ∧ Leads s (.rxByte b) (completed t 8 t.rxbuf[2]) ∨
            ∃ d, verdict = .ok d ∧
              Leads s (.rxByte b) (completed { t with data := writtenBack t.rq d t.data } 0 0)))

/-- R174: `IoFault` in a busy phase ends the exchange with IOError, the line released if it was asserted; otherwise
it does nothing. -/
def Obligations.IoFaultAbandonsExchange : Prop :=
  ∀ s : State, Inv s →
    (s.busy = true → Leads s .ioFault (completed s 5 0)) ∧ (s.busy = false → Leads s .ioFault s)

/-- `Reset` in any state puts every element to its value of R53, lets a driven pin go, and keeps the environment's
side (its queue and its pin are the model's, logs 1 and 6); the contents of R281 are left arbitrary
(70_reset_and_hazards.md section 1). -/
def Obligations.ResetEventRestoresResetValues : Prop :=
  ∀ s : State, ∃ t, Leads s .reset t ∧ AfterReset t ∧
    t.trace = s.trace ++ (if s.deDrv then [.pin .z] else []) ∧ t.inputs = s.inputs ∧ t.portOk = s.portOk

/-- The machine after reset has the values of R53 (10_state.md section 9). -/
def Obligations.ResetStateHasResetValues : Prop := AfterReset State.reset

/-! ## Host accesses -/

/-- R62: an access of another width or alignment, or outside the window, is answered with `BusError` and changes
nothing.  (`bus`, the record of the bus's latest answer, is the model's own field, log 4.) -/
def Obligations.BadAccessIsBusError : Prop :=
  ∀ (s : State) (off size : Nat) (v : Word), ¬ (size = 4 ∧ off % 4 = 0 ∧ off < 0x1000) →
    Leads s (.hostRead off size) { s with bus := .busError } ∧
    Leads s (.hostWrite off size v) { s with bus := .busError }

/-- R66: unmapped offsets read as 0 and ignore writes, without `BusError` and without setting `rej`. -/
def Obligations.UnmappedOffsetsReadZero : Prop :=
  ∀ (s : State) (off : Nat) (v : Word), off % 4 = 0 →
    (0x040 ≤ off ∧ off ≤ 0x1FC ∨ 0x3F4 ≤ off ∧ off ≤ 0x3FC ∨ 0xC00 ≤ off ∧ off ≤ 0xFFC) →
    Leads s (.hostRead off 4) { s with bus := .data 0 } ∧
    Leads s (.hostWrite off 4 v) { s with bus := .ack }

/-- A write to ERR, RXCNT, TXLEN, EXPLEN, TIMER, `TXBUF` or `RXBUF` is ignored, `rej` unchanged (20_memory.md
section 2). -/
def Obligations.ReadOnlyRegistersIgnoreWrites : Prop :=
  ∀ (s : State) (off : Nat) (v : Word), off % 4 = 0 →
    (off = 0x018 ∨ off = 0x01C ∨ 0x034 ≤ off ∧ off ≤ 0x03C ∨ 0x400 ≤ off ∧ off ≤ 0xBFC) →
    Leads s (.hostWrite off 4 v) { s with bus := .ack }

/-- A read returns the value of its register and changes nothing else (10_state.md sections 2 to 5, 20_memory.md
section 2). -/
def Obligations.ReadsReturnRegisterValues : Prop :=
  ∀ s : State,
    Leads s (.hostRead 0x000 4) { s with bus := .data (if s.ie then 1 else 0) } ∧
    Leads s (.hostRead 0x008 4) { s with bus := .data s.cmd } ∧
    Leads s (.hostRead 0x00C 4) { s with bus := .data s.slave } ∧
    Leads s (.hostRead 0x010 4) { s with bus := .data s.addr } ∧
    Leads s (.hostRead 0x014 4) { s with bus := .data s.arg } ∧
    Leads s (.hostRead 0x018 4) { s with bus := .data (BitVec.ofNat 32 (256 * s.errExc.toNat + s.errCode.toNat)) } ∧
    Leads s (.hostRead 0x01C 4) { s with bus := .data (BitVec.ofNat 32 s.rxCnt.toNat) } ∧
    Leads s (.hostRead 0x020 4) { s with bus := .data s.cfgBaud } ∧
    Leads s (.hostRead 0x024 4) { s with bus := .data s.cfgLine } ∧
    Leads s (.hostRead 0x028 4) { s with bus := .data s.cfgTimeout } ∧
    Leads s (.hostRead 0x02C 4) { s with bus := .data s.cfgRts } ∧
    Leads s (.hostRead 0x030 4) { s with bus := .data s.cfgRtsDelay } ∧
    Leads s (.hostRead 0x034 4) { s with bus := .data (BitVec.ofNat 32 s.txLen.toNat) } ∧
    Leads s (.hostRead 0x038 4) { s with bus := .data (BitVec.ofNat 32 s.expLen.toNat) } ∧
    Leads s (.hostRead 0x03C 4) { s with bus := .data s.timer } ∧
    (∀ (i : Nat) (h : i < 125),
      Leads s (.hostRead (0x200 + 4 * i) 4) { s with bus := .data (BitVec.ofNat 32 s.data[i].toNat) }) ∧
    (∀ (i : Nat) (h : i < 256),
      Leads s (.hostRead (0x400 + 4 * i) 4) { s with bus := .data (BitVec.ofNat 32 s.txbuf[i].toNat) }) ∧
    (∀ (i : Nat) (h : i < 256),
      Leads s (.hostRead (0x800 + 4 * i) 4) { s with bus := .data (BitVec.ofNat 32 s.rxbuf[i].toNat) })

/-- The layout of STATUS: a read of 0x004 returns a word with these bits, PHASE being 0 to 4 for IDLE, PRE, TX, POST
and RX (10_state.md sections 2 and 6). -/
def Obligations.StatusReadLayout : Prop :=
  ∀ s : State, ∃ w : Word, Leads s (.hostRead 0x004 4) { s with bus := .data w } ∧
    w.getLsbD 0 = s.isOpen ∧ w.getLsbD 1 = s.busy ∧ w.getLsbD 2 = s.done ∧ w.getLsbD 3 = s.rej ∧
    w.getLsbD 4 = s.de ∧ w.getLsbD 5 = s.deDrv ∧ w.extractLsb' 6 2 = 0 ∧
    w.extractLsb' 8 3 = (match s.phase with | .idle => 0 | .pre => 1 | .tx => 2 | .post => 3 | .rx => 4) ∧
    w.extractLsb' 11 21 = 0

/-- A write of STATUS clears exactly the flags whose bit is 1 (10_state.md section 2). -/
def Obligations.StatusWriteClearsFlags : Prop :=
  ∀ (s : State) (v : Word),
    Leads s (.hostWrite 0x004 4 v)
      { s with
        bus := .ack
        done := if v.getLsbD 2 then false else s.done
        rej := if v.getLsbD 3 then false else s.rej }

/-- Writes of CTRL, SLAVE, ADDR, ARG and `DATA` store their value at any time and change nothing else
(10_state.md sections 2 and 5). -/
def Obligations.OperandWritesStore : Prop :=
  ∀ (s : State) (v : Word),
    Leads s (.hostWrite 0x000 4 v) { s with bus := .ack, ie := v.getLsbD 0 } ∧
    Leads s (.hostWrite 0x00C 4 v) { s with bus := .ack, slave := v } ∧
    Leads s (.hostWrite 0x010 4 v) { s with bus := .ack, addr := v } ∧
    Leads s (.hostWrite 0x014 4 v) { s with bus := .ack, arg := v } ∧
    ∀ (i : Nat) (h : i < 125),
      Leads s (.hostWrite (0x200 + 4 * i) 4 v) { s with bus := .ack, data := s.data.set i (v.extractLsb' 0 16) }

/-- The write rule of the five `CFG_*` registers: stored under the register's mask while closed; while open ignored,
with `rej` set (10_state.md section 3). -/
def Obligations.ConfigWriteRule : Prop :=
  ∀ (s : State) (v : Word),
    (s.isOpen = false →
      Leads s (.hostWrite 0x020 4 v) { s with bus := .ack, cfgBaud := v } ∧
      Leads s (.hostWrite 0x024 4 v) { s with bus := .ack, cfgLine := v &&& 0x0000001F } ∧
      Leads s (.hostWrite 0x028 4 v) { s with bus := .ack, cfgTimeout := v } ∧
      Leads s (.hostWrite 0x02C 4 v) { s with bus := .ack, cfgRts := v &&& 0x0000FF03 } ∧
      Leads s (.hostWrite 0x030 4 v) { s with bus := .ack, cfgRtsDelay := v }) ∧
    (s.isOpen = true → ∀ off ∈ [0x020, 0x024, 0x028, 0x02C, 0x030],
      Leads s (.hostWrite off 4 v) { s with bus := .ack, rej := true })

/-- `irq` is the level `done and ie`: setting IE while DONE is pending raises it at once, clearing either drops it
(60_exceptions.md section 3). -/
def Obligations.InterruptFollowsDoneAndEnable : Prop :=
  ∀ s : State,
    (∃ t, Leads s (.hostWrite 0x000 4 1) t ∧ irq t = s.done) ∧
    (∃ t, Leads s (.hostWrite 0x000 4 0) t ∧ irq t = false) ∧
    (∃ t, Leads s (.hostWrite 0x004 4 4) t ∧ irq t = false)

/-! ## The codec -/

/-- The worked values of the CRC (40_crc16.md section 3). -/
def Obligations.CrcWorkedValues : Prop :=
  crc16 [] = 0xFFFF ∧ crc16 [0x00] = 0x40BF ∧ crc16 [0x01] = 0x807E ∧ crc16 [0xFF] = 0x00FF ∧
  crc16 [0x01, 0x06, 0x00, 0x0A, 0x00, 0x2A] = 0x1728 ∧
  crc16 [0x31, 0x32, 0x33, 0x34, 0x35, 0x36, 0x37, 0x38, 0x39] = 0x4B37

/-- The table-driven CRC is the bit-shift CRC, for every register value and byte (40_crc16.md section 2). -/
def Obligations.CrcTableFormAgrees : Prop :=
  ∀ (c : Half) (b : Byte), crcByteByTable c b = crcByte c b

/-- The CRC of a whole valid frame is 0 (40_crc16.md section 3). -/
def Obligations.CrcOfWholeFrameIsZero : Prop := ∀ body : List Byte, crc16 (withCrc body) = 0

/-- Flipping any one bit of an encoded frame yields ChecksumError (40_crc16.md section 3). -/
def Obligations.SingleBitFlipIsChecksumError : Prop :=
  ∀ (slave fc : Byte) (p : List Byte) (i : Nat) (j : Nat) (h : i < (encodeFrame slave fc p).length), j < 8 →
    decodeGeneric ((encodeFrame slave fc p).set i ((encodeFrame slave fc p)[i] ^^^ (1#8 <<< j))) =
      .err .checksumError 0

/-- The generic decoder recovers the payload of every encoded frame whose function code has bit 7 clear; with bit 7
set it reports the exception byte, or FramingError when there is none (41_frame_codec.md section 2). -/
def Obligations.GenericRoundTrip : Prop :=
  ∀ (slave fc : Byte) (p : List Byte),
    (fc.getLsbD 7 = false → decodeGeneric (encodeFrame slave fc p) = .ok p) ∧
    (fc.getLsbD 7 = true → ∀ (x : Byte) (q : List Byte), p = x :: q →
      decodeGeneric (encodeFrame slave fc p) = .err .exceptionError x) ∧
    (fc.getLsbD 7 = true → p = [] → decodeGeneric (encodeFrame slave fc p) = .err .framingError 0)

/-- R125: a frame of fewer than 4 bytes is a FramingError; from 4 bytes on a CRC mismatch is a ChecksumError
whatever the other bytes are; a good frame of 4 bytes denotes an empty payload. -/
def Obligations.LengthThenChecksum : Prop :=
  ∀ f : List Byte,
    (f.length < 4 → decodeGeneric f = .err .framingError 0) ∧
    (∀ (body : List Byte) (lo hi : Byte), f = body ++ [lo, hi] → 2 ≤ body.length →
      crc16 body ≠ hi ++ lo → decodeGeneric f = .err .checksumError 0) ∧
    (∀ slave fc : Byte, fc.getLsbD 7 = false → f = withCrc [slave, fc] → decodeGeneric f = .ok [])

/-- A response to a read in range is accepted exactly when it is the encoded frame of the request's slave, its
function code, the byte count N and N data bytes, and those bytes are the result; every other frame has the error
of `RejectedResponse` (41_frame_codec.md sections 2 and 3). -/
def Obligations.ReadResponseAcceptedIff : Prop :=
  ∀ (rq : Request) (tx f : List Byte), rq.op = .rdcoil ∨ rq.op = .rdireg ∨ rq.op = .rdhreg →
    argInRange rq.op rq.arg.toNat = true →
    (∀ d, decodeResponse rq tx f = .ok d ↔
      d.length = (if rq.op = .rdcoil then (rq.arg.toNat + 7) / 8 else 2 * rq.arg.toNat) ∧
      f = withCrc (rq.slave :: functionCode rq.op :: BitVec.ofNat 8 d.length :: d)) ∧
    RejectedResponse (decodeResponse rq tx f) f
      (∃ d : List Byte, d.length = (if rq.op = .rdcoil then (rq.arg.toNat + 7) / 8 else 2 * rq.arg.toNat) ∧
        f = withCrc (rq.slave :: functionCode rq.op :: BitVec.ofNat 8 d.length :: d))

/-- A response to a write is accepted exactly when it is the encoded frame of the request's slave, its function
code and bytes 2 to 5 of the request frame; every other frame has the error of `RejectedResponse`
(41_frame_codec.md sections 2 and 3). -/
def Obligations.WriteResponseAcceptedIff : Prop :=
  ∀ (rq : Request) (tx f : List Byte), rq.op = .wrcoil ∨ rq.op = .wrreg ∨ rq.op = .wrregs →
    6 ≤ tx.length →
    (decodeResponse rq tx f = .ok [] ↔
      f = withCrc (rq.slave :: functionCode rq.op :: (tx.drop 2).take 4)) ∧
    RejectedResponse (decodeResponse rq tx f) f
      (f = withCrc (rq.slave :: functionCode rq.op :: (tx.drop 2).take 4))

/-- R198: the write-back of a coil read of `n` coils: bit `j` of `DATA[w]` is coil `16w + j`, which is bit
`(16w + j) mod 8` of data byte `(16w + j) div 8`, if `16w + j < n`, else 0; words from `ceil(n/16)` on are unchanged. -/
def Obligations.CoilWriteBack : Prop :=
  ∀ (rq : Request) (d : List Byte) (old : Vector Half 125), rq.op = .rdcoil →
    1 ≤ rq.arg.toNat → rq.arg.toNat ≤ 2000 → d.length = (rq.arg.toNat + 7) / 8 →
    ∀ (w : Nat) (h : w < 125),
      (w < (rq.arg.toNat + 15) / 16 → ∀ j, j < 16 →
        (writtenBack rq d old)[w].getLsbD j =
          (if 16 * w + j < rq.arg.toNat then (d.getD ((16 * w + j) / 8) 0).getLsbD ((16 * w + j) % 8) else false)) ∧
      ((rq.arg.toNat + 15) / 16 ≤ w → (writtenBack rq d old)[w] = old[w])

/-- R199: the write-back of a register read of `n` registers, and of the write commands. -/
def Obligations.RegisterWriteBack : Prop :=
  ∀ (rq : Request) (d : List Byte) (old : Vector Half 125),
    (rq.op = .rdireg ∨ rq.op = .rdhreg → rq.arg.toNat ≤ 125 → d.length = 2 * rq.arg.toNat →
      ∀ (i : Nat) (h : i < 125),
        (writtenBack rq d old)[i] =
          (if i < rq.arg.toNat then d.getD (2 * i) 0 ++ d.getD (2 * i + 1) 0 else old[i])) ∧
    (rq.op = .wrcoil ∨ rq.op = .wrreg ∨ rq.op = .wrregs → writtenBack rq d old = old)

/-! ## The machine as a whole -/

/-- The invariant holds after reset (10_state.md section 8). -/
def Obligations.InvariantAtReset : Prop := Inv State.reset

/-- Every step keeps the invariant, from every state that meets it and whatever event is pending (10_state.md
section 8). -/
def Obligations.StepKeepsInvariant : Prop := ∀ s t : State, Inv s → step s = .next t → Inv t

/-- No state that meets the invariant steps to a fault or a refusal: `Step` is total on them (00_scope.md
section 6; the faults are the model's, log 7). -/
def Obligations.InvariantStatesNeverStop : Prop := ∀ s : State, Inv s → ∃ t, step s = .next t

/-- Under every event sequence, a run from reset never stops, and meets the invariant at its end (00_scope.md
section 6, 10_state.md section 8).  `State.reset` has the baud list of log 5 and the pin level of log 6, which are the
model's choice; the events include the changes of the pin. -/
def Obligations.EveryRunFromResetIsSafe : Prop :=
  ∀ (es : List Event) (n : Nat), ∃ t, core.run n (withEvents State.reset es) = .next t ∧ Inv t

/-- Every step keeps the trace ending with exactly the actions of the exchange in flight, in order: the line
asserted, the bytes of the frame, the line released (42_serial_transport.md section 7). -/
def Obligations.StepKeepsTraceInOrder : Prop :=
  ∀ s t : State, Inv s → TraceInOrder s → step s = .next t → TraceInOrder t

/-- A step only appends to the trace; a byte is handed over only in TX and, with RTS enabled, only while the line is
asserted (42_serial_transport.md section 7). -/
def Obligations.BytesLeaveOnlyInTheWindow : Prop :=
  ∀ s t : State, Inv s → step s = .next t →
    ∃ acts, t.trace = s.trace ++ acts ∧
      ∀ b, .tx b ∈ acts → s.phase = .tx ∧ (rtsEnabled s = true → s.de = true ∧ dePin s = assertedLevel s)

/-- With RTS mode disabled the pin is not driven and no step emits a `Pin` action (42_serial_transport.md
section 7). -/
def Obligations.DisabledRtsNeverTouchesThePin : Prop :=
  ∀ s t : State, Inv s → s.cfgRts.extractLsb' 0 2 = 0#2 → step s = .next t →
    dePin s = .z ∧ ∃ acts, t.trace = s.trace ++ acts ∧ ∀ l, .pin l ∉ acts

/-- While an exchange is in flight nothing changes its request, its frame or the configuration, and no event but a
completion or `Reset` ends it (44_hub_lifecycle.md sections 3 and 4, 42_serial_transport.md section 1). -/
def Obligations.ExchangeIsNotDisturbed : Prop :=
  ∀ (s t : State) (e : Event), Inv s → s.busy = true → Leads s e t → e ≠ .reset →
    t.rq = s.rq ∧ t.txbuf = s.txbuf ∧ t.txLen = s.txLen ∧ t.isOpen = true ∧ t.cfgBaud = s.cfgBaud ∧
    t.cfgLine = s.cfgLine ∧ t.cfgTimeout = s.cfgTimeout ∧ t.cfgRts = s.cfgRts ∧
    t.cfgRtsDelay = s.cfgRtsDelay ∧ (t.busy = false → t.done = true)

/-- `DATA` changes only by `Reset`, by a host write of `DATA`, or by the byte that completes a read successfully
(43_rtu_master.md section 3). -/
def Obligations.DataIsAllOrNothing : Prop :=
  ∀ (s t : State) (e : Event), Leads s e t → t.data ≠ s.data →
    e = .reset ∨ (∃ (i : Nat) (v : Word), i < 125 ∧ e = .hostWrite (0x200 + 4 * i) 4 v) ∨
    (∃ b, e = .rxByte b) ∧ s.phase = .rx ∧ t.done = true ∧ t.errCode = 0 ∧
      (s.rq.op = .rdcoil ∨ s.rq.op = .rdireg ∨ s.rq.op = .rdhreg)

/-- While the block is open the configuration does not change, and it opens only by OPEN with a usable port and a legal
configuration: a supported nonzero baud value, PARITY and MODE not 3 (44_hub_lifecycle.md sections 1 and 4). -/
def Obligations.ConfigurationFixedWhileOpen : Prop :=
  ∀ (s t : State) (e : Event), Inv s → Leads s e t → t.isOpen = true →
    t.cfgBaud = s.cfgBaud ∧ t.cfgLine = s.cfgLine ∧ t.cfgTimeout = s.cfgTimeout ∧ t.cfgRts = s.cfgRts ∧
    t.cfgRtsDelay = s.cfgRtsDelay ∧
    (s.isOpen = false → e = .hostWrite 0x008 4 8 ∧ s.portOk = true ∧ s.cfgBaud ≠ 0 ∧
      s.cfgBaud ∉ s.baudRefused ∧ s.cfgLine.extractLsb' 2 2 ≠ 3#2 ∧ s.cfgRts.extractLsb' 0 2 ≠ 3#2)

/-- The pre-delay lasts exactly `timer` ticks: before the last of them the sequencer is in PRE, after it in TX, and
nothing is emitted meanwhile (42_serial_transport.md section 2). -/
def Obligations.PreDelayLastsExactly : Prop :=
  ∀ (s : State) (k : Nat), s.phase = .pre → k < s.timer.toNat →
    core.run k (withEvents s (List.replicate k .tick)) =
      .next { s with inputs := [], timer := s.timer - BitVec.ofNat 32 k } ∧
    core.run s.timer.toNat (withEvents s (List.replicate s.timer.toNat .tick)) =
      .next { s with inputs := [], timer := 0, phase := .tx, txIdx := 0 }

/-- The response timeout: in RX, with fewer bytes of the response arriving in all than are expected before the tick
that brings `timer` to 0, that tick completes the command, with NoResponseError if none arrived and TimeoutError
otherwise; until then the block waits (42_serial_transport.md sections 5 and 7). -/
def Obligations.ResponseTimeoutIsExact : Prop :=
  ∀ (s : State) (es : List Event), Inv s → s.phase = .rx → es.all isTickOrByte = true →
    es.count .tick + 1 = s.timer.toNat → s.rxCnt.toNat + (bytesIn es).length < expectedAfter s es →
    (∃ u, core.run es.length (withEvents s (es ++ [.tick])) = .next u ∧ u.busy = true ∧ u.phase = .rx) ∧
    ∃ t, core.run (es.length + 1) (withEvents s (es ++ [.tick])) = .next t ∧ t.busy = false ∧ t.done = true ∧
      t.rxCnt.toNat = s.rxCnt.toNat + (bytesIn es).length ∧ t.data = s.data ∧
      t.errCode = (if t.rxCnt = 0 then 4 else 3)

/-- Every exchange ends when the environment is fair: from any busy state, under every list of events, whatever else
it holds, that has in this order the ticks of the running delay, an acceptance for every byte of the frame, and the
ticks of a post-delay and of the timeout, the block is idle after some of them, with `done = 1` unless a `Reset` is
among them (70_reset_and_hazards.md section 4). -/
def Obligations.FairEnvironmentEndsExchange : Prop :=
  ∀ (s : State) (es : List Event), Inv s → s.busy = true →
    (List.replicate s.timer.toNat Event.tick ++ List.replicate s.txLen.toNat Event.txAccept ++
      List.replicate (s.cfgRtsDelay.toNat + s.cfgTimeout.toNat) Event.tick).Sublist es →
    ∃ (k : Nat) (t : State), k ≤ es.length ∧ core.run k (withEvents s es) = .next t ∧ t.busy = false ∧
      t.phase = .idle ∧ (.reset ∉ es → t.done = true)

/-- The byte that completes the response and the tick that would expire the timeout in one clock cycle: the byte is
applied first and the tick then does nothing (60_exceptions.md section 4). -/
def Obligations.CompletingByteBeatsTimeout : Prop :=
  ∀ (s : State) (b : Byte), Inv s → s.phase = .rx → s.rxCnt + 1 = s.expLen →
    ∃ t, Leads (withEvents s []) (.rxByte b) t ∧ t.busy = false ∧ t.done = true ∧
      core.run 2 ((withEvents s []).withCycle { rxByte := some b, tick := true }) = .next t

/-- The expansion of a WRREG line runs WRREG with its operands in the registers (30_encoding.md section 5). -/
def Obligations.WrregLineRunsWrreg : Prop :=
  ∀ (s : State) (slave addr value : Word), s.busy = false →
    core.run 4 (withEvents s (expand (.wrreg slave addr value))) =
      exec .wrreg
        { s with
          inputs := [], bus := .ack, slave := slave, addr := addr, arg := value, cmd := 5, done := false,
          errCode := 0, errExc := 0 }

/-- Instances share no state: a step of one is what `step` answers for it, and leaves every other as it is
(60_exceptions.md section 8).  A list of instances stepped one at a time is the model's choice (log 12). -/
def Obligations.InstancesAreIndependent : Prop :=
  ∀ (p : Platform) (k : Nat) (s : State), p[k]? = some s →
    (∀ t, step s = .next t → ∃ q, platformStep k p = .next q ∧ q.length = p.length ∧ q[k]? = some t ∧
      ∀ j, j ≠ k → q[j]? = p[j]?) ∧
    (∀ f, step s = .fault f → platformStep k p = .fault f) ∧
    (∀ r, step s = .refused r → platformStep k p = .refused r)
end

