-- ==== Sys2Proof/Laws/Codec.lean ====
section
/-!
SUPPORT. Lengths of frames and what the stores into the buffers leave: the facts of R94, R139 and R43 that the
claims about exchanges rest on.
-/

namespace Sys2Proof.Machine

@[simp] theorem halfBytes_length (w : Half) : (halfBytes w).length = 2 := rfl

@[simp] theorem encodeFrame_length (slave fc : Byte) (p : List Byte) :
    (encodeFrame slave fc p).length = p.length + 4 := by
  simp [encodeFrame]

theorem flatMap_halfBytes_length (l : List Half) : (l.flatMap halfBytes).length = 2 * l.length := by
  induction l with
  | nil => rfl
  | cons w l ih => simp [ih]; omega

/-- The bounds of R196 on `ARG`, as inequalities. -/
theorem argInRange_iff (op : BusOp) (arg : Nat) :
    argInRange op arg = true ↔
      match op with
      | .rdcoil => 1 ≤ arg ∧ arg ≤ 2000
      | .rdireg | .rdhreg => 1 ≤ arg ∧ arg ≤ 125
      | .wrcoil => arg ≤ 1
      | .wrreg => arg ≤ 0xFFFF
      | .wrregs => 1 ≤ arg ∧ arg ≤ 123 := by
  cases op <;> simp [argInRange]

/-- A request whose argument is in range makes a frame of `TxLen(op, arg)` bytes (R94). -/
theorem requestFrame_length (rq : Request) (data : Vector Half 125)
    (h : argInRange rq.op rq.arg.toNat = true) :
    (requestFrame rq data).length = txLenOf rq.op rq.arg.toNat := by
  unfold requestFrame payload txLenOf
  rw [argInRange_iff] at h
  cases ho : rq.op <;> simp only [ho] at h <;>
    simp only [encodeFrame_length, List.length_append, halfBytes_length, List.length_cons, List.length_nil,
      flatMap_halfBytes_length, List.length_take, Vector.length_toList]
  omega

/-- Frame lengths of requests are 8 to 255 (R139). -/
theorem txLenOf_bounds (op : BusOp) (arg : Nat) (h : argInRange op arg = true) :
    8 ≤ txLenOf op arg ∧ txLenOf op arg ≤ 255 := by
  rw [argInRange_iff] at h
  cases op <;> simp only [txLenOf] at h ⊢ <;> omega

/-- Normal response lengths are 6 to 255 (R139). -/
theorem expLenOf_bounds (op : BusOp) (arg : Nat) (h : argInRange op arg = true) :
    6 ≤ expLenOf op arg ∧ expLenOf op arg ≤ 255 := by
  rw [argInRange_iff] at h
  cases op <;> simp only [expLenOf, ceilDiv] at h ⊢ <;> omega

/-- The four ways the generic decoder can answer (R124 to R127). -/
theorem decodeGeneric_cases (f : List Byte) :
    decodeGeneric f = .err .framingError 0 ∨
    (4 ≤ f.length ∧ decodeGeneric f = .err .checksumError 0) ∨
    (5 ≤ f.length ∧ (byteAt f 1).getLsbD 7 = true ∧ decodeGeneric f = .err .exceptionError (byteAt f 2)) ∨
    (4 ≤ f.length ∧ crc16 (crcCovered f) = crcField f ∧ (byteAt f 1).getLsbD 7 = false ∧
      decodeGeneric f = .ok ((crcCovered f).drop 2)) := by
  unfold decodeGeneric
  by_cases h4 : f.length < 4
  · simp [h4]
  · by_cases hc : crc16 (crcCovered f) = crcField f
    · cases hx : (byteAt f 1).getLsbD 7
      · exact .inr (.inr (.inr ⟨by omega, hc, rfl, by simp [h4, hc]⟩))
      · by_cases h5 : f.length < 5
        · exact .inl (by simp [h4, hc, h5])
        · exact .inr (.inr (.inl ⟨by omega, rfl, by simp [h4, hc, h5]⟩))
    · exact .inr (.inl ⟨by omega, by simp [h4, hc]⟩)

/-- The checks on a response answer with its data or a FramingError (R130). -/
theorem checkResponse_cases (rq : Request) (tx f p : List Byte) :
    checkResponse rq tx f p = .err .framingError 0 ∨ ∃ d, checkResponse rq tx f p = .ok d := by
  unfold checkResponse
  split_ifs <;> simp

/-- The four ways the response decoder can answer (R130, R136). -/
theorem decodeResponse_cases (rq : Request) (tx f : List Byte) :
    decodeResponse rq tx f = .err .framingError 0 ∨ decodeResponse rq tx f = .err .checksumError 0 ∨
    (5 ≤ f.length ∧ decodeResponse rq tx f = .err .exceptionError (byteAt f 2)) ∨
    ∃ d, decodeResponse rq tx f = .ok d := by
  unfold decodeResponse
  obtain h | ⟨-, h⟩ | ⟨h5, -, h⟩ | ⟨-, -, -, h⟩ := decodeGeneric_cases f <;> rw [h]
  · exact .inl rfl
  · exact .inr (.inl rfl)
  · exact .inr (.inr (.inl ⟨h5, rfl⟩))
  · obtain h | h := checkResponse_cases rq tx f ((crcCovered f).drop 2)
    · exact .inl h
    · exact .inr (.inr (.inr h))

/-- Byte `i` of `TXBUF` after a frame is stored (R197, R43). -/
theorem storeFrame_getElem (f : List Byte) (buf : Vector Byte 256) (i : Nat) (h : i < 256) :
    (storeFrame f buf)[i] = f.getD i buf[i] := by
  simp [storeFrame]

/-- The stored frame reads back. -/
theorem storeFrame_take (f : List Byte) (buf : Vector Byte 256) (h : f.length ≤ 256) :
    (storeFrame f buf).toList.take f.length = f := by
  apply List.ext_getElem
  · simp [h]
  · intro i h1 h2
    have hi : i < 256 := by omega
    have : (storeFrame f buf)[i] = f[i] := by
      rw [storeFrame_getElem f buf i hi]
      simp [h2]
    simpa using this

end Sys2Proof.Machine
end

