-- ==== Sys2Proof/Laws/State.lean ====
section
/-!
SUPPORT. One lemma per field per named update of the state, true by rfl, so that no proof unfolds a record update
(those of `loadRequest` are proved by one unfolding, since its stored frame makes the plain rfl check run deep).
The updates with a condition (`setDe`, `complete`, `beginExchange`, `enterRx`) have their equations in
Laws/Ops.lean instead.
-/

namespace Sys2Proof.Machine

variable (s : State)

@[simp] theorem emit_ie (a : Action) : (emit a s).ie = s.ie := rfl
@[simp] theorem emit_isOpen (a : Action) : (emit a s).isOpen = s.isOpen := rfl
@[simp] theorem emit_busy (a : Action) : (emit a s).busy = s.busy := rfl
@[simp] theorem emit_done (a : Action) : (emit a s).done = s.done := rfl
@[simp] theorem emit_rej (a : Action) : (emit a s).rej = s.rej := rfl
@[simp] theorem emit_de (a : Action) : (emit a s).de = s.de := rfl
@[simp] theorem emit_deDrv (a : Action) : (emit a s).deDrv = s.deDrv := rfl
@[simp] theorem emit_phase (a : Action) : (emit a s).phase = s.phase := rfl
@[simp] theorem emit_cmd (a : Action) : (emit a s).cmd = s.cmd := rfl
@[simp] theorem emit_slave (a : Action) : (emit a s).slave = s.slave := rfl
@[simp] theorem emit_addr (a : Action) : (emit a s).addr = s.addr := rfl
@[simp] theorem emit_arg (a : Action) : (emit a s).arg = s.arg := rfl
@[simp] theorem emit_errCode (a : Action) : (emit a s).errCode = s.errCode := rfl
@[simp] theorem emit_errExc (a : Action) : (emit a s).errExc = s.errExc := rfl
@[simp] theorem emit_cfgBaud (a : Action) : (emit a s).cfgBaud = s.cfgBaud := rfl
@[simp] theorem emit_cfgLine (a : Action) : (emit a s).cfgLine = s.cfgLine := rfl
@[simp] theorem emit_cfgTimeout (a : Action) : (emit a s).cfgTimeout = s.cfgTimeout := rfl
@[simp] theorem emit_cfgRts (a : Action) : (emit a s).cfgRts = s.cfgRts := rfl
@[simp] theorem emit_cfgRtsDelay (a : Action) : (emit a s).cfgRtsDelay = s.cfgRtsDelay := rfl
@[simp] theorem emit_data (a : Action) : (emit a s).data = s.data := rfl
@[simp] theorem emit_txbuf (a : Action) : (emit a s).txbuf = s.txbuf := rfl
@[simp] theorem emit_rxbuf (a : Action) : (emit a s).rxbuf = s.rxbuf := rfl
@[simp] theorem emit_rq (a : Action) : (emit a s).rq = s.rq := rfl
@[simp] theorem emit_timer (a : Action) : (emit a s).timer = s.timer := rfl
@[simp] theorem emit_txIdx (a : Action) : (emit a s).txIdx = s.txIdx := rfl
@[simp] theorem emit_txLen (a : Action) : (emit a s).txLen = s.txLen := rfl
@[simp] theorem emit_rxCnt (a : Action) : (emit a s).rxCnt = s.rxCnt := rfl
@[simp] theorem emit_expLen (a : Action) : (emit a s).expLen = s.expLen := rfl
@[simp] theorem emit_inputs (a : Action) : (emit a s).inputs = s.inputs := rfl
@[simp] theorem emit_trace (a : Action) : (emit a s).trace = s.trace ++ [a] := rfl
@[simp] theorem emit_bus (a : Action) : (emit a s).bus = s.bus := rfl
@[simp] theorem emit_portOk (a : Action) : (emit a s).portOk = s.portOk := rfl
@[simp] theorem emit_baudRefused (a : Action) : (emit a s).baudRefused = s.baudRefused := rfl
@[simp] theorem emit_draws (a : Action) : (emit a s).draws = s.draws := rfl

@[simp] theorem enterTx_ie : (enterTx s).ie = s.ie := rfl
@[simp] theorem enterTx_isOpen : (enterTx s).isOpen = s.isOpen := rfl
@[simp] theorem enterTx_busy : (enterTx s).busy = s.busy := rfl
@[simp] theorem enterTx_done : (enterTx s).done = s.done := rfl
@[simp] theorem enterTx_rej : (enterTx s).rej = s.rej := rfl
@[simp] theorem enterTx_de : (enterTx s).de = s.de := rfl
@[simp] theorem enterTx_deDrv : (enterTx s).deDrv = s.deDrv := rfl
@[simp] theorem enterTx_phase : (enterTx s).phase = .tx := rfl
@[simp] theorem enterTx_cmd : (enterTx s).cmd = s.cmd := rfl
@[simp] theorem enterTx_slave : (enterTx s).slave = s.slave := rfl
@[simp] theorem enterTx_addr : (enterTx s).addr = s.addr := rfl
@[simp] theorem enterTx_arg : (enterTx s).arg = s.arg := rfl
@[simp] theorem enterTx_errCode : (enterTx s).errCode = s.errCode := rfl
@[simp] theorem enterTx_errExc : (enterTx s).errExc = s.errExc := rfl
@[simp] theorem enterTx_cfgBaud : (enterTx s).cfgBaud = s.cfgBaud := rfl
@[simp] theorem enterTx_cfgLine : (enterTx s).cfgLine = s.cfgLine := rfl
@[simp] theorem enterTx_cfgTimeout : (enterTx s).cfgTimeout = s.cfgTimeout := rfl
@[simp] theorem enterTx_cfgRts : (enterTx s).cfgRts = s.cfgRts := rfl
@[simp] theorem enterTx_cfgRtsDelay : (enterTx s).cfgRtsDelay = s.cfgRtsDelay := rfl
@[simp] theorem enterTx_data : (enterTx s).data = s.data := rfl
@[simp] theorem enterTx_txbuf : (enterTx s).txbuf = s.txbuf := rfl
@[simp] theorem enterTx_rxbuf : (enterTx s).rxbuf = s.rxbuf := rfl
@[simp] theorem enterTx_rq : (enterTx s).rq = s.rq := rfl
@[simp] theorem enterTx_timer : (enterTx s).timer = s.timer := rfl
@[simp] theorem enterTx_txIdx : (enterTx s).txIdx = 0 := rfl
@[simp] theorem enterTx_txLen : (enterTx s).txLen = s.txLen := rfl
@[simp] theorem enterTx_rxCnt : (enterTx s).rxCnt = s.rxCnt := rfl
@[simp] theorem enterTx_expLen : (enterTx s).expLen = s.expLen := rfl
@[simp] theorem enterTx_inputs : (enterTx s).inputs = s.inputs := rfl
@[simp] theorem enterTx_trace : (enterTx s).trace = s.trace := rfl
@[simp] theorem enterTx_bus : (enterTx s).bus = s.bus := rfl
@[simp] theorem enterTx_portOk : (enterTx s).portOk = s.portOk := rfl
@[simp] theorem enterTx_baudRefused : (enterTx s).baudRefused = s.baudRefused := rfl
@[simp] theorem enterTx_draws : (enterTx s).draws = s.draws := rfl

@[simp] theorem enterDelay_ie (p : Phase) : (enterDelay p s).ie = s.ie := rfl
@[simp] theorem enterDelay_isOpen (p : Phase) : (enterDelay p s).isOpen = s.isOpen := rfl
@[simp] theorem enterDelay_busy (p : Phase) : (enterDelay p s).busy = s.busy := rfl
@[simp] theorem enterDelay_done (p : Phase) : (enterDelay p s).done = s.done := rfl
@[simp] theorem enterDelay_rej (p : Phase) : (enterDelay p s).rej = s.rej := rfl
@[simp] theorem enterDelay_de (p : Phase) : (enterDelay p s).de = s.de := rfl
@[simp] theorem enterDelay_deDrv (p : Phase) : (enterDelay p s).deDrv = s.deDrv := rfl
@[simp] theorem enterDelay_phase (p : Phase) : (enterDelay p s).phase = p := rfl
@[simp] theorem enterDelay_cmd (p : Phase) : (enterDelay p s).cmd = s.cmd := rfl
@[simp] theorem enterDelay_slave (p : Phase) : (enterDelay p s).slave = s.slave := rfl
@[simp] theorem enterDelay_addr (p : Phase) : (enterDelay p s).addr = s.addr := rfl
@[simp] theorem enterDelay_arg (p : Phase) : (enterDelay p s).arg = s.arg := rfl
@[simp] theorem enterDelay_errCode (p : Phase) : (enterDelay p s).errCode = s.errCode := rfl
@[simp] theorem enterDelay_errExc (p : Phase) : (enterDelay p s).errExc = s.errExc := rfl
@[simp] theorem enterDelay_cfgBaud (p : Phase) : (enterDelay p s).cfgBaud = s.cfgBaud := rfl
@[simp] theorem enterDelay_cfgLine (p : Phase) : (enterDelay p s).cfgLine = s.cfgLine := rfl
@[simp] theorem enterDelay_cfgTimeout (p : Phase) : (enterDelay p s).cfgTimeout = s.cfgTimeout := rfl
@[simp] theorem enterDelay_cfgRts (p : Phase) : (enterDelay p s).cfgRts = s.cfgRts := rfl
@[simp] theorem enterDelay_cfgRtsDelay (p : Phase) : (enterDelay p s).cfgRtsDelay = s.cfgRtsDelay := rfl
@[simp] theorem enterDelay_data (p : Phase) : (enterDelay p s).data = s.data := rfl
@[simp] theorem enterDelay_txbuf (p : Phase) : (enterDelay p s).txbuf = s.txbuf := rfl
@[simp] theorem enterDelay_rxbuf (p : Phase) : (enterDelay p s).rxbuf = s.rxbuf := rfl
@[simp] theorem enterDelay_rq (p : Phase) : (enterDelay p s).rq = s.rq := rfl
@[simp] theorem enterDelay_timer (p : Phase) : (enterDelay p s).timer = s.cfgRtsDelay := rfl
@[simp] theorem enterDelay_txIdx (p : Phase) : (enterDelay p s).txIdx = s.txIdx := rfl
@[simp] theorem enterDelay_txLen (p : Phase) : (enterDelay p s).txLen = s.txLen := rfl
@[simp] theorem enterDelay_rxCnt (p : Phase) : (enterDelay p s).rxCnt = s.rxCnt := rfl
@[simp] theorem enterDelay_expLen (p : Phase) : (enterDelay p s).expLen = s.expLen := rfl
@[simp] theorem enterDelay_inputs (p : Phase) : (enterDelay p s).inputs = s.inputs := rfl
@[simp] theorem enterDelay_trace (p : Phase) : (enterDelay p s).trace = s.trace := rfl
@[simp] theorem enterDelay_bus (p : Phase) : (enterDelay p s).bus = s.bus := rfl
@[simp] theorem enterDelay_portOk (p : Phase) : (enterDelay p s).portOk = s.portOk := rfl
@[simp] theorem enterDelay_baudRefused (p : Phase) : (enterDelay p s).baudRefused = s.baudRefused := rfl
@[simp] theorem enterDelay_draws (p : Phase) : (enterDelay p s).draws = s.draws := rfl

@[simp] theorem accept_ie (v : Word) : (accept v s).ie = s.ie := rfl
@[simp] theorem accept_isOpen (v : Word) : (accept v s).isOpen = s.isOpen := rfl
@[simp] theorem accept_busy (v : Word) : (accept v s).busy = s.busy := rfl
@[simp] theorem accept_done (v : Word) : (accept v s).done = false := rfl
@[simp] theorem accept_rej (v : Word) : (accept v s).rej = s.rej := rfl
@[simp] theorem accept_de (v : Word) : (accept v s).de = s.de := rfl
@[simp] theorem accept_deDrv (v : Word) : (accept v s).deDrv = s.deDrv := rfl
@[simp] theorem accept_phase (v : Word) : (accept v s).phase = s.phase := rfl
@[simp] theorem accept_cmd (v : Word) : (accept v s).cmd = v := rfl
@[simp] theorem accept_slave (v : Word) : (accept v s).slave = s.slave := rfl
@[simp] theorem accept_addr (v : Word) : (accept v s).addr = s.addr := rfl
@[simp] theorem accept_arg (v : Word) : (accept v s).arg = s.arg := rfl
@[simp] theorem accept_errCode (v : Word) : (accept v s).errCode = 0 := rfl
@[simp] theorem accept_errExc (v : Word) : (accept v s).errExc = 0 := rfl
@[simp] theorem accept_cfgBaud (v : Word) : (accept v s).cfgBaud = s.cfgBaud := rfl
@[simp] theorem accept_cfgLine (v : Word) : (accept v s).cfgLine = s.cfgLine := rfl
@[simp] theorem accept_cfgTimeout (v : Word) : (accept v s).cfgTimeout = s.cfgTimeout := rfl
@[simp] theorem accept_cfgRts (v : Word) : (accept v s).cfgRts = s.cfgRts := rfl
@[simp] theorem accept_cfgRtsDelay (v : Word) : (accept v s).cfgRtsDelay = s.cfgRtsDelay := rfl
@[simp] theorem accept_data (v : Word) : (accept v s).data = s.data := rfl
@[simp] theorem accept_txbuf (v : Word) : (accept v s).txbuf = s.txbuf := rfl
@[simp] theorem accept_rxbuf (v : Word) : (accept v s).rxbuf = s.rxbuf := rfl
@[simp] theorem accept_rq (v : Word) : (accept v s).rq = s.rq := rfl
@[simp] theorem accept_timer (v : Word) : (accept v s).timer = s.timer := rfl
@[simp] theorem accept_txIdx (v : Word) : (accept v s).txIdx = s.txIdx := rfl
@[simp] theorem accept_txLen (v : Word) : (accept v s).txLen = s.txLen := rfl
@[simp] theorem accept_rxCnt (v : Word) : (accept v s).rxCnt = s.rxCnt := rfl
@[simp] theorem accept_expLen (v : Word) : (accept v s).expLen = s.expLen := rfl
@[simp] theorem accept_inputs (v : Word) : (accept v s).inputs = s.inputs := rfl
@[simp] theorem accept_trace (v : Word) : (accept v s).trace = s.trace := rfl
@[simp] theorem accept_bus (v : Word) : (accept v s).bus = s.bus := rfl
@[simp] theorem accept_portOk (v : Word) : (accept v s).portOk = s.portOk := rfl
@[simp] theorem accept_baudRefused (v : Word) : (accept v s).baudRefused = s.baudRefused := rfl
@[simp] theorem accept_draws (v : Word) : (accept v s).draws = s.draws := rfl

@[simp] theorem acknowledge_ie (v : Word) : (acknowledge v s).ie = s.ie := rfl
@[simp] theorem acknowledge_isOpen (v : Word) : (acknowledge v s).isOpen = s.isOpen := rfl
@[simp] theorem acknowledge_busy (v : Word) : (acknowledge v s).busy = s.busy := rfl
@[simp] theorem acknowledge_done (v : Word) : (acknowledge v s).done = (s.done && !v.getLsbD 2) := rfl
@[simp] theorem acknowledge_rej (v : Word) : (acknowledge v s).rej = (s.rej && !v.getLsbD 3) := rfl
@[simp] theorem acknowledge_de (v : Word) : (acknowledge v s).de = s.de := rfl
@[simp] theorem acknowledge_deDrv (v : Word) : (acknowledge v s).deDrv = s.deDrv := rfl
@[simp] theorem acknowledge_phase (v : Word) : (acknowledge v s).phase = s.phase := rfl
@[simp] theorem acknowledge_cmd (v : Word) : (acknowledge v s).cmd = s.cmd := rfl
@[simp] theorem acknowledge_slave (v : Word) : (acknowledge v s).slave = s.slave := rfl
@[simp] theorem acknowledge_addr (v : Word) : (acknowledge v s).addr = s.addr := rfl
@[simp] theorem acknowledge_arg (v : Word) : (acknowledge v s).arg = s.arg := rfl
@[simp] theorem acknowledge_errCode (v : Word) : (acknowledge v s).errCode = s.errCode := rfl
@[simp] theorem acknowledge_errExc (v : Word) : (acknowledge v s).errExc = s.errExc := rfl
@[simp] theorem acknowledge_cfgBaud (v : Word) : (acknowledge v s).cfgBaud = s.cfgBaud := rfl
@[simp] theorem acknowledge_cfgLine (v : Word) : (acknowledge v s).cfgLine = s.cfgLine := rfl
@[simp] theorem acknowledge_cfgTimeout (v : Word) : (acknowledge v s).cfgTimeout = s.cfgTimeout := rfl
@[simp] theorem acknowledge_cfgRts (v : Word) : (acknowledge v s).cfgRts = s.cfgRts := rfl
@[simp] theorem acknowledge_cfgRtsDelay (v : Word) : (acknowledge v s).cfgRtsDelay = s.cfgRtsDelay := rfl
@[simp] theorem acknowledge_data (v : Word) : (acknowledge v s).data = s.data := rfl
@[simp] theorem acknowledge_txbuf (v : Word) : (acknowledge v s).txbuf = s.txbuf := rfl
@[simp] theorem acknowledge_rxbuf (v : Word) : (acknowledge v s).rxbuf = s.rxbuf := rfl
@[simp] theorem acknowledge_rq (v : Word) : (acknowledge v s).rq = s.rq := rfl
@[simp] theorem acknowledge_timer (v : Word) : (acknowledge v s).timer = s.timer := rfl
@[simp] theorem acknowledge_txIdx (v : Word) : (acknowledge v s).txIdx = s.txIdx := rfl
@[simp] theorem acknowledge_txLen (v : Word) : (acknowledge v s).txLen = s.txLen := rfl
@[simp] theorem acknowledge_rxCnt (v : Word) : (acknowledge v s).rxCnt = s.rxCnt := rfl
@[simp] theorem acknowledge_expLen (v : Word) : (acknowledge v s).expLen = s.expLen := rfl
@[simp] theorem acknowledge_inputs (v : Word) : (acknowledge v s).inputs = s.inputs := rfl
@[simp] theorem acknowledge_trace (v : Word) : (acknowledge v s).trace = s.trace := rfl
@[simp] theorem acknowledge_bus (v : Word) : (acknowledge v s).bus = s.bus := rfl
@[simp] theorem acknowledge_portOk (v : Word) : (acknowledge v s).portOk = s.portOk := rfl
@[simp] theorem acknowledge_baudRefused (v : Word) : (acknowledge v s).baudRefused = s.baudRefused := rfl
@[simp] theorem acknowledge_draws (v : Word) : (acknowledge v s).draws = s.draws := rfl

@[simp] theorem writeBack_ie (d : List Byte) : (writeBack d s).ie = s.ie := rfl
@[simp] theorem writeBack_isOpen (d : List Byte) : (writeBack d s).isOpen = s.isOpen := rfl
@[simp] theorem writeBack_busy (d : List Byte) : (writeBack d s).busy = s.busy := rfl
@[simp] theorem writeBack_done (d : List Byte) : (writeBack d s).done = s.done := rfl
@[simp] theorem writeBack_rej (d : List Byte) : (writeBack d s).rej = s.rej := rfl
@[simp] theorem writeBack_de (d : List Byte) : (writeBack d s).de = s.de := rfl
@[simp] theorem writeBack_deDrv (d : List Byte) : (writeBack d s).deDrv = s.deDrv := rfl
@[simp] theorem writeBack_phase (d : List Byte) : (writeBack d s).phase = s.phase := rfl
@[simp] theorem writeBack_cmd (d : List Byte) : (writeBack d s).cmd = s.cmd := rfl
@[simp] theorem writeBack_slave (d : List Byte) : (writeBack d s).slave = s.slave := rfl
@[simp] theorem writeBack_addr (d : List Byte) : (writeBack d s).addr = s.addr := rfl
@[simp] theorem writeBack_arg (d : List Byte) : (writeBack d s).arg = s.arg := rfl
@[simp] theorem writeBack_errCode (d : List Byte) : (writeBack d s).errCode = s.errCode := rfl
@[simp] theorem writeBack_errExc (d : List Byte) : (writeBack d s).errExc = s.errExc := rfl
@[simp] theorem writeBack_cfgBaud (d : List Byte) : (writeBack d s).cfgBaud = s.cfgBaud := rfl
@[simp] theorem writeBack_cfgLine (d : List Byte) : (writeBack d s).cfgLine = s.cfgLine := rfl
@[simp] theorem writeBack_cfgTimeout (d : List Byte) : (writeBack d s).cfgTimeout = s.cfgTimeout := rfl
@[simp] theorem writeBack_cfgRts (d : List Byte) : (writeBack d s).cfgRts = s.cfgRts := rfl
@[simp] theorem writeBack_cfgRtsDelay (d : List Byte) : (writeBack d s).cfgRtsDelay = s.cfgRtsDelay := rfl
@[simp] theorem writeBack_data (d : List Byte) : (writeBack d s).data = writtenBack s.rq d s.data := rfl
@[simp] theorem writeBack_txbuf (d : List Byte) : (writeBack d s).txbuf = s.txbuf := rfl
@[simp] theorem writeBack_rxbuf (d : List Byte) : (writeBack d s).rxbuf = s.rxbuf := rfl
@[simp] theorem writeBack_rq (d : List Byte) : (writeBack d s).rq = s.rq := rfl
@[simp] theorem writeBack_timer (d : List Byte) : (writeBack d s).timer = s.timer := rfl
@[simp] theorem writeBack_txIdx (d : List Byte) : (writeBack d s).txIdx = s.txIdx := rfl
@[simp] theorem writeBack_txLen (d : List Byte) : (writeBack d s).txLen = s.txLen := rfl
@[simp] theorem writeBack_rxCnt (d : List Byte) : (writeBack d s).rxCnt = s.rxCnt := rfl
@[simp] theorem writeBack_expLen (d : List Byte) : (writeBack d s).expLen = s.expLen := rfl
@[simp] theorem writeBack_inputs (d : List Byte) : (writeBack d s).inputs = s.inputs := rfl
@[simp] theorem writeBack_trace (d : List Byte) : (writeBack d s).trace = s.trace := rfl
@[simp] theorem writeBack_bus (d : List Byte) : (writeBack d s).bus = s.bus := rfl
@[simp] theorem writeBack_portOk (d : List Byte) : (writeBack d s).portOk = s.portOk := rfl
@[simp] theorem writeBack_baudRefused (d : List Byte) : (writeBack d s).baudRefused = s.baudRefused := rfl
@[simp] theorem writeBack_draws (d : List Byte) : (writeBack d s).draws = s.draws := rfl

@[simp] theorem loadRequest_ie (rq : Request) : (loadRequest rq s).ie = s.ie := by simp only [loadRequest]
@[simp] theorem loadRequest_isOpen (rq : Request) : (loadRequest rq s).isOpen = s.isOpen := by simp only [loadRequest]
@[simp] theorem loadRequest_busy (rq : Request) : (loadRequest rq s).busy = s.busy := by simp only [loadRequest]
@[simp] theorem loadRequest_done (rq : Request) : (loadRequest rq s).done = s.done := by simp only [loadRequest]
@[simp] theorem loadRequest_rej (rq : Request) : (loadRequest rq s).rej = s.rej := by simp only [loadRequest]
@[simp] theorem loadRequest_de (rq : Request) : (loadRequest rq s).de = s.de := by simp only [loadRequest]
@[simp] theorem loadRequest_deDrv (rq : Request) : (loadRequest rq s).deDrv = s.deDrv := by simp only [loadRequest]
@[simp] theorem loadRequest_phase (rq : Request) : (loadRequest rq s).phase = s.phase := by simp only [loadRequest]
@[simp] theorem loadRequest_cmd (rq : Request) : (loadRequest rq s).cmd = s.cmd := by simp only [loadRequest]
@[simp] theorem loadRequest_slave (rq : Request) : (loadRequest rq s).slave = s.slave := by simp only [loadRequest]
@[simp] theorem loadRequest_addr (rq : Request) : (loadRequest rq s).addr = s.addr := by simp only [loadRequest]
@[simp] theorem loadRequest_arg (rq : Request) : (loadRequest rq s).arg = s.arg := by simp only [loadRequest]
@[simp] theorem loadRequest_errCode (rq : Request) : (loadRequest rq s).errCode = s.errCode := by simp only [loadRequest]
@[simp] theorem loadRequest_errExc (rq : Request) : (loadRequest rq s).errExc = s.errExc := by simp only [loadRequest]
@[simp] theorem loadRequest_cfgBaud (rq : Request) : (loadRequest rq s).cfgBaud = s.cfgBaud := by simp only [loadRequest]
@[simp] theorem loadRequest_cfgLine (rq : Request) : (loadRequest rq s).cfgLine = s.cfgLine := by simp only [loadRequest]
@[simp] theorem loadRequest_cfgTimeout (rq : Request) : (loadRequest rq s).cfgTimeout = s.cfgTimeout := by simp only [loadRequest]
@[simp] theorem loadRequest_cfgRts (rq : Request) : (loadRequest rq s).cfgRts = s.cfgRts := by simp only [loadRequest]
@[simp] theorem loadRequest_cfgRtsDelay (rq : Request) : (loadRequest rq s).cfgRtsDelay = s.cfgRtsDelay := by simp only [loadRequest]
@[simp] theorem loadRequest_data (rq : Request) : (loadRequest rq s).data = s.data := by simp only [loadRequest]
@[simp] theorem loadRequest_txbuf (rq : Request) : (loadRequest rq s).txbuf = storeFrame (requestFrame rq s.data) s.txbuf := by simp only [loadRequest]
@[simp] theorem loadRequest_rxbuf (rq : Request) : (loadRequest rq s).rxbuf = s.rxbuf := by simp only [loadRequest]
@[simp] theorem loadRequest_rq (rq : Request) : (loadRequest rq s).rq = rq := by simp only [loadRequest]
@[simp] theorem loadRequest_timer (rq : Request) : (loadRequest rq s).timer = s.timer := by simp only [loadRequest]
@[simp] theorem loadRequest_txIdx (rq : Request) : (loadRequest rq s).txIdx = s.txIdx := by simp only [loadRequest]
@[simp] theorem loadRequest_txLen (rq : Request) : (loadRequest rq s).txLen = BitVec.ofNat 9 (requestFrame rq s.data).length := by simp only [loadRequest]
@[simp] theorem loadRequest_rxCnt (rq : Request) : (loadRequest rq s).rxCnt = s.rxCnt := by simp only [loadRequest]
@[simp] theorem loadRequest_expLen (rq : Request) : (loadRequest rq s).expLen = BitVec.ofNat 9 (expLenOf rq.op rq.arg.toNat) := by simp only [loadRequest]
@[simp] theorem loadRequest_inputs (rq : Request) : (loadRequest rq s).inputs = s.inputs := by simp only [loadRequest]
@[simp] theorem loadRequest_trace (rq : Request) : (loadRequest rq s).trace = s.trace := by simp only [loadRequest]
@[simp] theorem loadRequest_bus (rq : Request) : (loadRequest rq s).bus = s.bus := by simp only [loadRequest]
@[simp] theorem loadRequest_portOk (rq : Request) : (loadRequest rq s).portOk = s.portOk := by simp only [loadRequest]
@[simp] theorem loadRequest_baudRefused (rq : Request) : (loadRequest rq s).baudRefused = s.baudRefused := by simp only [loadRequest]
@[simp] theorem loadRequest_draws (rq : Request) : (loadRequest rq s).draws = s.draws := by simp only [loadRequest]

end Sys2Proof.Machine
end

