-- ==== Sys2Proof/Laws/Ops.lean ====
section
/-!
SUPPORT. For each shared operation, what it can do, said once: an equation that names every field it writes, or the
list of cases it can end in.  Proofs cite these instead of unfolding the operation.
-/

namespace Sys2Proof.Machine

/-- The action by which an asserted line is released (R151). -/
def releaseActions (s : State) : List Action := if s.de then [.pin (dePin { s with de := false })] else []

/-- `SetDe(v)` writes `de` and emits one `Pin` action exactly when `de` changes (R151). -/
theorem setDe_eq (v : Bool) (s : State) :
    setDe v s =
      { s with
        de := v
        trace := s.trace ++ if s.de = v then [] else [.pin (dePin { s with de := v })] } := by
  unfold setDe
  split
  · rename_i h; cases s; simp_all
  · rename_i h; simp [emit]

/-- Releasing the line if it is asserted writes `de` and the trace, nothing else (R166, R250). -/
theorem release_eq (s : State) :
    (if s.de then setDe false s else s) = { s with de := false, trace := s.trace ++ releaseActions s } := by
  cases hd : s.de
  · cases s; simp_all [releaseActions]
  · simp [setDe_eq, releaseActions, hd]

/-- Everything `Complete(code, exc)` writes (R250). -/
theorem complete_eq (code : ErrorCode) (exc : Byte) (s : State) :
    complete code exc s =
      { s with
        de := false
        busy := false
        phase := .idle
        errCode := errorNumber code
        errExc := exc
        done := true
        trace := s.trace ++ releaseActions s } := by
  unfold complete
  rw [release_eq]

/-- `Expire` completes with the error that the number of bytes received decides (R169). -/
theorem expire_eq (s : State) :
    expire s = complete (if s.rxCnt = 0 then .noResponseError else .timeoutError) 0 s := by
  unfold expire
  split <;> rfl

/-- The state in RX that `EnterRx` enters before it looks at the timer (R166). -/
def waitingRx (s : State) : State :=
  { s with
    de := false
    trace := s.trace ++ releaseActions s
    phase := .rx
    rxCnt := 0
    timer := s.cfgTimeout }

/-- `EnterRx` waits in RX, or ends the exchange at once when `CFG_TIMEOUT = 0` (R166, R169). -/
theorem enterRx_eq (s : State) :
    enterRx s =
      if s.cfgTimeout = 0 then complete .noResponseError 0 (waitingRx s) else waitingRx s := by
  unfold enterRx
  simp only [release_eq]
  split <;> simp_all [waitingRx, expire_eq]

/-- The action by which `BeginExchange` asserts the line (R152). -/
def assertActions (s : State) : List Action :=
  if rtsEnabled s = true ∧ s.de = false then [.pin (dePin { s with de := true })] else []

/-- Everything `BeginExchange` writes (R152 to R155). -/
theorem beginExchange_eq (s : State) :
    beginExchange s =
      { s with
        busy := true
        txIdx := 0
        rxCnt := 0
        de := s.de || rtsEnabled s
        trace := s.trace ++ assertActions s
        phase := if rtsEnabled s = true ∧ s.cfgRtsDelay ≠ 0 then .pre else .tx
        timer := if rtsEnabled s = true ∧ s.cfgRtsDelay ≠ 0 then s.cfgRtsDelay else s.timer } := by
  have hb : rtsEnabled { s with busy := true, txIdx := 0, rxCnt := 0 } = rtsEnabled s := rfl
  unfold beginExchange
  simp only [hb, setDe_eq, enterTx, enterDelay, assertActions, dePin, rtsMode]
  cases hr : rtsEnabled s <;> cases hd : s.de <;> by_cases hc : s.cfgRtsDelay = 0 <;>
    simp [hc] <;> cases s <;> simp_all

/-- The three ways a bus command can go in the step of the `CMD` write (R197). -/
theorem busCommand_cases (op : BusOp) (s : State) :
    (validArgs op s = false ∧ busCommand op s = complete .invalidArgument 0 s) ∨
    (validArgs op s = true ∧ s.isOpen = false ∧ busCommand op s = complete .closedError 0 s) ∨
    (validArgs op s = true ∧ s.isOpen = true ∧
      busCommand op s = beginExchange (loadRequest (latchedRequest op s) s)) := by
  unfold busCommand
  cases hv : validArgs op s <;> cases ho : s.isOpen <;> simp

/-- The four ways OPEN can go (R220). -/
theorem execOpen_cases (s : State) :
    (s.isOpen = true ∧ execOpen s = .next (complete .success 0 s)) ∨
    (s.isOpen = false ∧ legalConfig s = false ∧ execOpen s = .next (complete .configError 0 s)) ∨
    (s.isOpen = false ∧ legalConfig s = true ∧ s.portOk = false ∧
      execOpen s = .next (complete .ioError 0 s)) ∨
    (s.isOpen = false ∧ legalConfig s = true ∧ s.portOk = true ∧
      execOpen s = .next (complete .success 0 (connect s))) := by
  unfold execOpen
  cases ho : s.isOpen <;> cases hl : legalConfig s <;> cases hp : s.portOk <;> simp

/-- Everything the effect of a successful OPEN writes (R220, R221). -/
theorem connect_eq (s : State) :
    connect s =
      { s with
        isOpen := true
        deDrv := s.deDrv || rtsEnabled s
        de := s.de && !rtsEnabled s
        trace := s.trace ++
          if rtsEnabled s then [.pin (dePin { s with isOpen := true, deDrv := true, de := false })] else [] } := by
  unfold connect
  cases hr : rtsEnabled s <;> simp [emit]

/-- Everything the effect of CLOSE writes (R223, R224). -/
theorem disconnect_eq (s : State) :
    disconnect s =
      { s with
        isOpen := false
        deDrv := false
        de := s.de && !s.deDrv
        trace := s.trace ++ if s.deDrv then [.pin .z] else [] } := by
  unfold disconnect
  cases hd : s.deDrv <;> simp [emit]

/-- The three ways a `CMD` write can go (R226, R228). -/
theorem start_cases (v : Word) (s : State) :
    (s.busy = true ∧ start v s = .next { s with rej := true }) ∨
    (s.busy = false ∧ (∃ e, decode v = .error e) ∧
      start v s = .next (complete .invalidArgument 0 (accept v s))) ∨
    (s.busy = false ∧ ∃ i, decode v = .ok i ∧ start v s = exec i (accept v s)) := by
  unfold start
  cases hb : s.busy
  · cases hd : decode v <;> simp
  · simp

/-- The three ways a counted `Tick` can go (R156, R162, R167). -/
theorem countDown_cases (reached : State → State) (s : State) :
    (s.timer = 0 ∧ countDown reached s = .fault .timerUnderflow) ∨
    (s.timer = 1 ∧ countDown reached s = .next (reached { s with timer := 0 })) ∨
    (s.timer ≠ 0 ∧ s.timer ≠ 1 ∧ countDown reached s = .next { s with timer := s.timer - 1 }) := by
  unfold countDown
  by_cases h0 : s.timer = 0
  · simp [h0]
  · by_cases h1 : s.timer = 1
    · simp [h1]
    · have h2 : s.timer - 1 ≠ 0 := by
        intro h
        apply h1
        bv_omega
      refine .inr (.inr ⟨h0, h1, ?_⟩)
      rw [if_neg h0, if_neg h2]

/-- The four ways a `TxAccept` can go (R158, R159). -/
theorem txAccept_cases (s : State) :
    (s.phase ≠ .tx ∧ txAccept s = .next s) ∨
    (s.phase = .tx ∧ ¬ s.txIdx.toNat < 256 ∧ txAccept s = .fault .txIndexBeyondBuffer) ∨
    (s.phase = .tx ∧ ∃ h : s.txIdx.toNat < 256, s.txIdx + 1 = s.txLen ∧
      txAccept s = .next (frameSent (emit (.tx s.txbuf[s.txIdx.toNat]) { s with txIdx := s.txIdx + 1 }))) ∨
    (s.phase = .tx ∧ ∃ h : s.txIdx.toNat < 256, s.txIdx + 1 ≠ s.txLen ∧
      txAccept s = .next (emit (.tx s.txbuf[s.txIdx.toNat]) { s with txIdx := s.txIdx + 1 })) := by
  unfold txAccept
  by_cases hp : s.phase = .tx
  · by_cases hi : s.txIdx.toNat < 256
    · by_cases he : s.txIdx + 1 = s.txLen
      · exact .inr (.inr (.inl ⟨hp, hi, he, by rw [if_pos hp, dif_pos hi]; exact congrArg _ (if_pos he)⟩))
      · exact .inr (.inr (.inr ⟨hp, hi, he, by rw [if_pos hp, dif_pos hi]; exact congrArg _ (if_neg he)⟩))
    · exact .inr (.inl ⟨hp, hi, by simp [hp, hi]⟩)
  · exact .inl ⟨hp, by simp [hp]⟩

/-- The four ways an `RxByte` can go (R163, R170 to R173). -/
theorem rxByte_cases (b : Byte) (s : State) :
    (s.phase ≠ .rx ∧ rxByte b s = .next s) ∨
    (s.phase = .rx ∧ ¬ s.rxCnt.toNat < 256 ∧ rxByte b s = .fault .rxCountBeyondBuffer) ∨
    (s.phase = .rx ∧ ∃ h : s.rxCnt.toNat < 256, (collect b s h).rxCnt = (collect b s h).expLen ∧
      rxByte b s = .next (finish (collect b s h))) ∨
    (s.phase = .rx ∧ ∃ h : s.rxCnt.toNat < 256, (collect b s h).rxCnt ≠ (collect b s h).expLen ∧
      rxByte b s = .next (collect b s h)) := by
  unfold rxByte
  by_cases hp : s.phase = .rx
  · by_cases hi : s.rxCnt.toNat < 256
    · by_cases he : (collect b s hi).rxCnt = (collect b s hi).expLen
      · exact .inr (.inr (.inl ⟨hp, hi, he, by simp [hp, hi, he]⟩))
      · exact .inr (.inr (.inr ⟨hp, hi, he, by simp [hp, hi, he]⟩))
    · exact .inr (.inl ⟨hp, hi, by simp [hp, hi]⟩)
  · exact .inl ⟨hp, by simp [hp]⟩

/-- Everything a collected byte writes (R170, R171). -/
theorem collect_eq (b : Byte) (s : State) (h : s.rxCnt.toNat < 256) :
    collect b s h =
      { s with
        rxbuf := s.rxbuf.set s.rxCnt.toNat b
        rxCnt := s.rxCnt + 1
        expLen := if s.rxCnt + 1 = 2 ∧ (s.rxbuf.set s.rxCnt.toNat b)[1].getLsbD 7 = true then 5 else s.expLen } := by
  unfold collect reviseLength
  simp only
  split <;> rfl

/-- `Finish` completes with the decoder's verdict, and writes `DATA` only on success (R172). -/
theorem finish_cases (s : State) :
    (∃ code exc, decodeResponse s.rq (sentFrame s) (receivedFrame s) = .err code exc ∧
      finish s = complete code exc s) ∨
    (∃ d, decodeResponse s.rq (sentFrame s) (receivedFrame s) = .ok d ∧
      finish s = complete .success 0 (writeBack d s)) := by
  unfold finish
  cases h : decodeResponse s.rq (sentFrame s) (receivedFrame s) with
  | ok d => exact .inr ⟨d, rfl, rfl⟩
  | err code exc => exact .inl ⟨code, exc, rfl, rfl⟩

/-- The two ways a host write can go (R62, R64). -/
theorem hostWrite_cases (off size : Nat) (v : Word) (s : State) :
    (accessLegal off size = true ∧ hostWrite off size v s = writeReg (regAt off) v { s with bus := .ack }) ∨
    (accessLegal off size = false ∧ hostWrite off size v s = .next { s with bus := .busError }) := by
  unfold hostWrite
  cases accessLegal off size <;> simp

/-- A step applies the oldest pending event, and does nothing without one (R9). -/
theorem step_cons (s : State) (e : Event) (rest : List Event) (h : s.inputs = e :: rest) :
    step s = applyEvent e { s with inputs := rest } := by
  simp [step, h]

theorem step_nil (s : State) (h : s.inputs = []) : step s = .next s := by
  simp [step, h]

end Sys2Proof.Machine
end

