-- ==== Sys2Proof/Laws/Completion.lean ====
section
/-!
SUPPORT. The shared operations in states that meet the invariant, in the wording of claims: which level the pin is
released to, what `Complete` and `EnterRx` leave, and what an idle block looks like.
-/

namespace Sys2Proof.Safety

open Sys2Proof.Machine

/-- MODE is 1 or 2 when RTS is enabled (R39). -/
theorem rtsMode_of_enabled {s : State} (h : rtsEnabled s = true) : rtsMode s = 1 ∨ rtsMode s = 2 := by
  simpa [rtsEnabled] using h

/-- A driven pin with the line asserted is at the asserted level (R44, R176). -/
theorem dePin_asserted {s : State} (hd : s.deDrv = true) (hr : rtsEnabled s = true) :
    dePin { s with de := true } = assertedLevel s := by
  rcases rtsMode_of_enabled hr with hm | hm <;>
    simp only [dePin, assertedLevel, rtsMode, hd] at hm ⊢ <;> simp [hm]

/-- A driven pin with the line released is at the other level (R44, R176). -/
theorem dePin_released {s : State} (hd : s.deDrv = true) (hr : rtsEnabled s = true) :
    dePin { s with de := false } = releasedLevel s := by
  rcases rtsMode_of_enabled hr with hm | hm <;>
    simp only [dePin, releasedLevel, rtsMode, hd] at hm ⊢ <;> simp [hm]

/-- The line is asserted only while the pin is driven and RTS is enabled (R52 (a) to (d)). -/
theorem driven_of_asserted {s : State} (h : Inv s) (hd : s.de = true) :
    s.deDrv = true ∧ rtsEnabled s = true := by
  obtain ⟨hs, hr⟩ := h.de_in_window hd
  have hp : s.phase ≠ .idle := by rcases hs with e | e | e <;> simp [e]
  exact ⟨h.de_drv_iff.2 ⟨h.busy_open (h.busy_iff_phase.2 hp), hr⟩, hr⟩

/-- Releasing the line, where it is asserted only while the pin is driven, emits the released level. -/
theorem releaseActions_of_driven {s : State} (h : s.de = true → s.deDrv = true ∧ rtsEnabled s = true) :
    releaseActions s = if s.de then [.pin (releasedLevel s)] else [] := by
  unfold releaseActions
  split
  · rename_i hd
    rw [dePin_released (h hd).1 (h hd).2]
  · rfl

/-- `Complete(code, exc)` in the wording of claims (R250). -/
theorem complete_eq_completed {s : State} (h : s.de = true → s.deDrv = true ∧ rtsEnabled s = true)
    (code : ErrorCode) (exc : Byte) : complete code exc s = completed s (errorNumber code) exc := by
  rw [complete_eq, releaseActions_of_driven h]
  rfl

/-- `EnterRx` in the wording of claims (R166, R169). -/
theorem enterRx_eq_receiverEnabled {s : State} (h : s.de = true → s.deDrv = true ∧ rtsEnabled s = true) :
    enterRx s = receiverEnabled s := by
  rw [enterRx_eq]
  unfold receiverEnabled waitingRx
  rw [releaseActions_of_driven h]
  dsimp only
  split
  · rw [complete_eq_completed (by simp)]
    rfl
  · rfl

/-- A block that is not busy is in IDLE with the line released (R52 (a), (c)). -/
theorem idle_of_not_busy {s : State} (h : Inv s) (hb : s.busy = false) : s.phase = .idle ∧ s.de = false := by
  have hp : s.phase = .idle := by
    by_contra hc
    have := h.busy_iff_phase.2 hc
    simp_all
  refine ⟨hp, ?_⟩
  by_contra hc
  have := (h.de_in_window (by simpa using hc)).1
  simp [sending, hp] at this

/-- `Complete` of a command that started no exchange writes only `done` and `ERR` (R250). -/
theorem complete_of_idle {s : State} (hp : s.phase = .idle) (hd : s.de = false) (hb : s.busy = false)
    (code : ErrorCode) (exc : Byte) :
    complete code exc s = { s with errCode := errorNumber code, errExc := exc, done := true } := by
  rw [complete_eq]
  cases s
  simp_all [releaseActions]

/-- `ValidArgs(op)` as inequalities on the full registers (R196). -/
theorem validArgs_iff (op : BusOp) (s : State) : validArgs op s = true ↔ ArgsLegal op s := by
  unfold validArgs ArgsLegal
  simp only [Bool.and_eq_true, decide_eq_true_eq, and_assoc]
  cases op <;> simp [argInRange]

end Sys2Proof.Safety
end

