-- ==== Sys2Proof/Laws/PerInstr.lean ====
section
/-!
SUPPORT. Facts about the commands as syntax, one lemma per constructor of `Instr`.
-/

/-- The command word is `0x0000000n` with a defined opcode `n`, it is well-formed, and it decodes to the command
(R80 to R83). -/
def Sys2Proof.Laws.CommandWord.Statement (i : Sys2Proof.Instr) : Prop :=
  (Sys2Proof.encode i).extractLsb' 4 28 = 0#28 ∧
  (Sys2Proof.encode i).extractLsb' 0 4 = Sys2Proof.opcodeOf i ∧
  Sys2Proof.wordWellFormed (Sys2Proof.encode i) = true ∧
  Sys2Proof.decode (Sys2Proof.encode i) = .ok i

namespace Sys2Proof.Laws.CommandWord

theorem rdcoil : Statement .rdcoil := by unfold Statement; decide
theorem rdireg : Statement .rdireg := by unfold Statement; decide
theorem rdhreg : Statement .rdhreg := by unfold Statement; decide
theorem wrcoil : Statement .wrcoil := by unfold Statement; decide
theorem wrreg : Statement .wrreg := by unfold Statement; decide
theorem wrregs : Statement .wrregs := by unfold Statement; decide
theorem openPort : Statement .openPort := by unfold Statement; decide
theorem closePort : Statement .closePort := by unfold Statement; decide

end Sys2Proof.Laws.CommandWord
end

