-- ==== Sys2Proof/Laws/Window.lean ====
section
/-!
SUPPORT. Which register stands at an offset of the window, and which accesses are performed: the map of R21 and
the access rule of R62 as lemmas, so that no proof unfolds `regAt` or `accessLegal`.
-/

namespace Sys2Proof.Machine

/-- An access is performed exactly when it is 4 bytes wide, aligned and inside the window (R62). -/
theorem accessLegal_iff (off size : Nat) :
    accessLegal off size = true ↔ size = 4 ∧ off % 4 = 0 ∧ off < 0x1000 := by
  simp [accessLegal, and_assoc]

/-- The registers at 0x000 to 0x03C (R21). -/
theorem regAt_control (off : Nat) (h : off < 0x040) : regAt off = controlAt (off / 4) := by
  unfold regAt
  rw [if_pos h]

/-- `DATA[i]` (R21, R42). -/
theorem regAt_data (i : Nat) (h : i < 125) : regAt (0x200 + 4 * i) = .data ⟨i, h⟩ := by
  unfold regAt bufferAt
  rw [if_neg (by omega), dif_pos (by omega)]
  congr 2
  omega

/-- `TXBUF[i]` (R21, R43). -/
theorem regAt_txbuf (i : Nat) (h : i < 256) : regAt (0x400 + 4 * i) = .txbuf ⟨i, h⟩ := by
  unfold regAt bufferAt
  rw [if_neg (by omega), dif_neg (by omega), dif_pos (by omega)]
  congr 2
  omega

/-- `RXBUF[i]` (R21, R43). -/
theorem regAt_rxbuf (i : Nat) (h : i < 256) : regAt (0x800 + 4 * i) = .rxbuf ⟨i, h⟩ := by
  unfold regAt bufferAt
  rw [if_neg (by omega), dif_neg (by omega), dif_neg (by omega), dif_pos (by omega)]
  congr 2
  omega

/-- The unmapped offsets (R66). -/
theorem regAt_unmapped (off : Nat)
    (h : 0x040 ≤ off ∧ off < 0x200 ∨ 0x3F4 ≤ off ∧ off < 0x400 ∨ 0xC00 ≤ off) : regAt off = .unmapped := by
  unfold regAt bufferAt
  rw [if_neg (by omega), dif_neg (by omega), dif_neg (by omega), dif_neg (by omega)]

/-- A read that is performed answers the register's value and changes nothing else (R62, R63). -/
theorem hostRead_eq (s : State) (off : Nat) (h : off % 4 = 0) (h' : off < 0x1000) :
    hostRead off 4 s = { s with bus := .data (readReg (regAt off) s) } := by
  unfold hostRead
  rw [if_pos ((accessLegal_iff off 4).2 ⟨rfl, h, h'⟩)]

/-- A write that is performed is that of its register (R62, R64). -/
theorem hostWrite_eq (s : State) (off : Nat) (v : Word) (h : off % 4 = 0) (h' : off < 0x1000) :
    hostWrite off 4 v s = writeReg (regAt off) v { s with bus := .ack } := by
  unfold hostWrite
  rw [if_pos ((accessLegal_iff off 4).2 ⟨rfl, h, h'⟩)]

end Sys2Proof.Machine
end

