-- ==== Sys2Proof/Tests/Slice0.lean ====
section
/-!
SUPPORT. Tests on fixed values, and for each statement with hypotheses a concrete state and operands that meet
them.  Every expected value is one of `spec/95_test_vectors.md` (the part is named), or the boundary of a rule.
-/

namespace Sys2Proof.Tests

open Sys2Proof Sys2Proof.Machine Sys2Proof.Safety

/-! ## Well-formedness and decoding -/

/-- Part 2.3: bits 31:4 must be 0. -/
theorem test_wf_zero_field : wordWellFormed 0x00000015 = false ∧ wordWellFormed 0x80000005 = false := by decide

/-- Part 2.3: the reserved opcodes 0, 7, 0xA to 0xF. -/
theorem test_wf_reserved_opcode :
    [0x0, 0x7, 0xA, 0xB, 0xC, 0xD, 0xE, 0xF].all (fun w : Word => wordWellFormed w == false) = true := by decide

theorem test_decode_rdcoil : decode 0b00000000000000000000000000000001 = .ok .rdcoil := by decide
theorem test_decode_rdireg : decode 0b00000000000000000000000000000010 = .ok .rdireg := by decide
theorem test_decode_rdhreg : decode 0b00000000000000000000000000000011 = .ok .rdhreg := by decide
theorem test_decode_wrcoil : decode 0b00000000000000000000000000000100 = .ok .wrcoil := by decide
theorem test_decode_wrreg : decode 0b00000000000000000000000000000101 = .ok .wrreg := by decide
theorem test_decode_wrregs : decode 0b00000000000000000000000000000110 = .ok .wrregs := by decide
theorem test_decode_open : decode 0b00000000000000000000000000001000 = .ok .openPort := by decide
theorem test_decode_close : decode 0b00000000000000000000000000001001 = .ok .closePort := by decide

theorem test_decode_rejects_by_name :
    decode 0x15 = .error .zeroFieldSet ∧ decode 0x7 = .error (.reservedOpcode 7) := by decide

theorem test_table_words : decodeTableWord 32 5 = some .wrreg ∧ decodeTableWord 32 7 = none := by decide

/-! ## Small states -/

/-- An idle block, open or closed, with `CFG_RTS`, `CFG_RTS_DELAY`, `CFG_TIMEOUT` and all buffers given. -/
def idle (isOpen : Bool) (rts delay timeout : Word) : State :=
  { State.reset with
    isOpen := isOpen
    deDrv := isOpen && (rts == 1 || rts == 2)
    cfgBaud := 9600
    cfgRts := rts
    cfgRtsDelay := delay
    cfgTimeout := timeout
    data := Vector.replicate 125 0
    txbuf := Vector.replicate 256 0
    rxbuf := Vector.replicate 256 0
    rq := ⟨.wrreg, 0, 0, 0⟩ }

/-- The block with `SLAVE`, `ADDR` and `ARG` written. -/
def withArgs (s : State) (slave addr arg : Word) : State := { s with slave := slave, addr := addr, arg := arg }

/-- WRREG 1, 10, 42 of part 1 (T1). -/
def theRequest : Request := ⟨.wrreg, 1, 10, 42⟩

/-- The block with that exchange in flight in phase `p`, before its first byte in TX. -/
def inFlight (p : Phase) (rts delay timer : Word) : State :=
  { idle true rts delay 3 with
    busy := true
    phase := p
    de := (rts == 1 || rts == 2) && p != .rx
    rq := theRequest
    txbuf := storeFrame (requestFrame theRequest (Vector.replicate 125 0)) (Vector.replicate 256 0)
    txLen := 8
    expLen := 8
    timer := timer
    txIdx := if p = .post ∨ p = .rx then 8 else 0 }

/-- The same with a read of `n` holding registers of slave 17 awaiting its response (P2). -/
def awaiting (n : Half) (timer : Word) : State :=
  { inFlight .rx 0 0 timer with
    rq := ⟨.rdhreg, 17, 0x6B, n⟩
    txbuf := storeFrame (requestFrame ⟨.rdhreg, 17, 0x6B, n⟩ (Vector.replicate 125 0)) (Vector.replicate 256 0)
    expLen := BitVec.ofNat 9 (5 + 2 * n.toNat) }

/-! These states meet the invariant. -/

theorem inv_closed : Inv (idle false 0 0 3) := by
  constructor
  case frame_in_buffer => exact fun h => absurd h (by decide)
  all_goals decide
theorem inv_closed_rts : Inv (idle false 2 7 3) := by
  constructor
  case frame_in_buffer => exact fun h => absurd h (by decide)
  all_goals decide
theorem inv_open : Inv (idle true 0 0 3) := by
  constructor
  case frame_in_buffer => exact fun h => absurd h (by decide)
  all_goals decide
theorem inv_open_rts : Inv (idle true 1 2 3) := by
  constructor
  case frame_in_buffer => exact fun h => absurd h (by decide)
  all_goals decide
theorem inv_pre : Inv (inFlight .pre 1 2 2) := by
  constructor
  case frame_in_buffer => exact fun _ => ⟨Vector.replicate 125 0, by decide +kernel⟩
  all_goals decide
theorem inv_tx : Inv (inFlight .tx 0 0 0) := by
  constructor
  case frame_in_buffer => exact fun _ => ⟨Vector.replicate 125 0, by decide +kernel⟩
  all_goals decide
theorem inv_tx_rts : Inv (inFlight .tx 1 2 0) := by
  constructor
  case frame_in_buffer => exact fun _ => ⟨Vector.replicate 125 0, by decide +kernel⟩
  all_goals decide
theorem inv_post : Inv (inFlight .post 1 2 1) := by
  constructor
  case frame_in_buffer => exact fun _ => ⟨Vector.replicate 125 0, by decide +kernel⟩
  all_goals decide
theorem inv_rx : Inv (inFlight .rx 1 2 1) := by
  constructor
  case frame_in_buffer => exact fun _ => ⟨Vector.replicate 125 0, by decide +kernel⟩
  all_goals decide
theorem inv_rx_three : Inv (inFlight .rx 1 2 3) := by
  constructor
  case frame_in_buffer => exact fun _ => ⟨Vector.replicate 125 0, by decide +kernel⟩
  all_goals decide
theorem inv_awaiting : Inv (awaiting 3 1) := by
  constructor
  case frame_in_buffer => exact fun _ => ⟨Vector.replicate 125 0, by decide +kernel⟩
  all_goals decide

/-! ## One step of each command -/

/-- What `exec` leaves, for reading one or two fields of it. -/
def after (i : Instr) (s : State) : State :=
  match exec i s with
  | .next t => t
  | _ => s

/-- Part 2.2: RDCOIL 1, 0x0013, 37. -/
theorem test_rdcoil_frame :
    sentFrame (after .rdcoil (withArgs (idle true 0 0 3) 1 0x13 37)) =
      [0x01, 0x01, 0x00, 0x13, 0x00, 0x25, 0x0C, 0x14] ∧
    (after .rdcoil (withArgs (idle true 0 0 3) 1 0x13 37)).expLen = 10 := by decide +kernel

/-- Part 1, T2: 2001 coils are an InvalidArgument. -/
theorem test_rdcoil_bound : (after .rdcoil (withArgs (idle true 0 0 3) 1 0 2001)).errCode = 2 := by decide +kernel

/-- Part 2.2: RDIREG 1, 8, 1. -/
theorem test_rdireg_frame :
    sentFrame (after .rdireg (withArgs (idle true 0 0 3) 1 8 1)) =
      [0x01, 0x04, 0x00, 0x08, 0x00, 0x01, 0xB0, 0x08] := by decide +kernel

/-- Part 2.3: InvalidArgument before ClosedError, else ClosedError. -/
theorem test_rdireg_closed :
    (after .rdireg (withArgs (idle false 0 0 3) 1 0 126)).errCode = 2 ∧
    (after .rdireg (withArgs (idle false 0 0 3) 1 8 1)).errCode = 9 := by decide +kernel

/-- Part 2.2: RDHREG 17, 0x006B, 3. -/
theorem test_rdhreg_frame :
    sentFrame (after .rdhreg (withArgs (idle true 0 0 3) 17 0x6B 3)) =
      [0x11, 0x03, 0x00, 0x6B, 0x00, 0x03, 0x76, 0x87] ∧
    (after .rdhreg (withArgs (idle true 0 0 3) 17 0x6B 3)).expLen = 11 := by decide +kernel

/-- Part 3, P2 step 8: PRE with the delay loaded, the active-low line asserted. -/
theorem test_rdhreg_pre :
    statusWord (after .rdhreg (withArgs (idle true 2 3 3) 17 0x6B 3)) = 0x00000133 ∧
    (after .rdhreg (withArgs (idle true 2 3 3) 17 0x6B 3)).trace = [.pin .low] := by decide +kernel

/-- Part 2.2: WRCOIL 1, 0x00AC, 1 and 0. -/
theorem test_wrcoil_frame :
    sentFrame (after .wrcoil (withArgs (idle true 0 0 3) 1 0xAC 1)) =
      [0x01, 0x05, 0x00, 0xAC, 0xFF, 0x00, 0x4C, 0x1B] ∧
    sentFrame (after .wrcoil (withArgs (idle true 0 0 3) 1 0xAC 0)) =
      [0x01, 0x05, 0x00, 0xAC, 0x00, 0x00, 0x0D, 0xEB] := by decide +kernel

/-- Part 2.3: a coil value must be 0 or 1. -/
theorem test_wrcoil_value : (after .wrcoil (withArgs (idle true 0 0 3) 1 0 2)).errCode = 2 := by decide +kernel

/-- Part 1, T1: WRREG 1, 10, 42. -/
theorem test_wrreg_frame :
    sentFrame (after .wrreg (withArgs (idle true 0 0 3) 1 10 42)) =
      [0x01, 0x06, 0x00, 0x0A, 0x00, 0x2A, 0x28, 0x17] := by decide +kernel

/-- Part 2.3: the bounds of SLAVE and ADDR are on the full registers. -/
theorem test_wrreg_bounds :
    (after .wrreg (withArgs (idle true 0 0 3) 248 0 1)).errCode = 2 ∧
    (after .wrreg (withArgs (idle true 0 0 3) 1 0x10000 1)).errCode = 2 := by decide +kernel

/-- Part 2.2: WRREGS 1, 1, 2 with `DATA[0..1] = 000A, 0102`. -/
theorem test_wrregs_frame :
    sentFrame (after .wrregs { withArgs (idle true 0 0 3) 1 1 2 with
        data := ((Vector.replicate 125 0).set 0 0x000A).set 1 0x0102 }) =
      [0x01, 0x10, 0x00, 0x01, 0x00, 0x02, 0x04, 0x00, 0x0A, 0x01, 0x02, 0x92, 0x30] := by decide +kernel

/-- Part 2.3: 124 registers are too many. -/
theorem test_wrregs_bound : (after .wrregs (withArgs (idle true 0 0 3) 1 0 124)).errCode = 2 := by decide +kernel

/-- Part 3, P2 step 6: OPEN with active-low RTS. -/
theorem test_open_rts :
    statusWord (after .openPort (idle false 2 3 3)) = 0x00000025 ∧
    (after .openPort (idle false 2 3 3)).trace = [.pin .high] := by decide +kernel

/-- Part 2.7: OPEN with the port unusable. -/
theorem test_open_port : (after .openPort { idle false 0 0 3 with portOk := false }).errCode = 5 := by decide +kernel

/-- Part 3, P2 step 19: CLOSE lets the pin go. -/
theorem test_close_rts :
    statusWord (after .closePort (idle true 2 3 3)) = 0x00000004 ∧
    (after .closePort (idle true 2 3 3)).trace = [.pin .z] := by decide +kernel

/-- The fetch word runs as the first command after reset: OPEN with `CFG_BAUD = 0` is a ConfigError (part 2.7). -/
theorem test_fetch_word :
    (match step (State.reset.withFetchWord 32 8) with
      | .next t => t.errCode
      | _ => 0) = 1 := by decide

/-! ## Witnesses: every statement with hypotheses has a state and operands that meet them -/

theorem witness_ReservedWordsAreInvalidArgument :
    (Inv (idle true 0 0 3) ∧ (idle true 0 0 3).busy = false) ∧
    (0x10#32).extractLsb' 4 28 ≠ 0 ∧ (0x80000005#32).extractLsb' 4 28 ≠ 0 ∧
    (0x0#32).extractLsb' 0 4 ∈ [0x0#4, 0x7#4, 0xA#4, 0xB#4, 0xC#4, 0xD#4, 0xE#4, 0xF#4] ∧
    (0x7#32).extractLsb' 0 4 ∈ [0x0#4, 0x7#4, 0xA#4, 0xB#4, 0xC#4, 0xD#4, 0xE#4, 0xF#4] ∧
    (0xF#32).extractLsb' 0 4 ∈ [0x0#4, 0x7#4, 0xA#4, 0xB#4, 0xC#4, 0xD#4, 0xE#4, 0xF#4] :=
  ⟨⟨inv_open, rfl⟩, by decide⟩

theorem witness_DecodeAndEncodeAgree : decode 9 = .ok .closePort := by decide

theorem witness_StepRunsDecodedCommand : (idle true 0 0 3).busy = false ∧ decode 5 = .ok .wrreg := by decide

theorem witness_CmdWriteWhileBusyIsRefused : (inFlight .tx 0 0 0).busy = true := rfl

theorem witness_AcceptedCmdWriteEndsDoneOrBusy : Inv (idle true 1 2 3) ∧ (idle true 1 2 3).busy = false :=
  ⟨inv_open_rts, rfl⟩

/-- `withArgs` writes three registers that the invariant does not read. -/
theorem inv_withArgs {s : State} (h : Inv s) (slave addr arg : Word) : Inv (withArgs s slave addr arg) :=
  ⟨h.1, h.2, h.3, h.4, h.5, h.6, h.7, h.8, h.9, h.10, h.11, h.12, h.13, h.14, h.15, h.16, h.17, h.18, h.19, h.20⟩

theorem witness_ReadCommandsStartExchange :
    (∀ slave addr arg, Inv (withArgs (idle true 1 2 3) slave addr arg) ∧
      (withArgs (idle true 1 2 3) slave addr arg).busy = false ∧
      (withArgs (idle true 1 2 3) slave addr arg).isOpen = true) ∧
    ArgsLegal .rdcoil (withArgs (idle true 1 2 3) 247 0xFFFF 2000) ∧
    ArgsLegal .rdcoil (withArgs (idle true 1 2 3) 0 0 1) ∧
    ArgsLegal .rdireg (withArgs (idle true 1 2 3) 247 0xFFFF 125) ∧
    ArgsLegal .rdireg (withArgs (idle true 1 2 3) 0 0 1) ∧
    ArgsLegal .rdhreg (withArgs (idle true 1 2 3) 247 0xFFFF 125) ∧
    ArgsLegal .rdhreg (withArgs (idle true 1 2 3) 0 0 1) :=
  ⟨fun _ _ _ => ⟨inv_withArgs inv_open_rts _ _ _, rfl, rfl⟩, by unfold ArgsLegal; decide⟩

theorem witness_SingleWritesStartExchange :
    (∀ slave addr arg, Inv (withArgs (idle true 0 0 3) slave addr arg) ∧
      (withArgs (idle true 0 0 3) slave addr arg).busy = false ∧
      (withArgs (idle true 0 0 3) slave addr arg).isOpen = true) ∧
    ArgsLegal .wrcoil (withArgs (idle true 0 0 3) 247 0xFFFF 1) ∧
    ArgsLegal .wrcoil (withArgs (idle true 0 0 3) 0 0 0) ∧
    ArgsLegal .wrreg (withArgs (idle true 0 0 3) 247 0xFFFF 0xFFFF) ∧
    ArgsLegal .wrreg (withArgs (idle true 0 0 3) 0 0 0) :=
  ⟨fun _ _ _ => ⟨inv_withArgs inv_open _ _ _, rfl, rfl⟩, by unfold ArgsLegal; decide⟩

theorem witness_WriteRegistersStartsExchange :
    (∀ slave addr arg, Inv (withArgs (idle true 0 0 3) slave addr arg) ∧
      (withArgs (idle true 0 0 3) slave addr arg).busy = false ∧
      (withArgs (idle true 0 0 3) slave addr arg).isOpen = true) ∧
    ArgsLegal .wrregs (withArgs (idle true 0 0 3) 247 0xFFFF 123) ∧
    ArgsLegal .wrregs (withArgs (idle true 0 0 3) 0 0 1) :=
  ⟨fun _ _ _ => ⟨inv_withArgs inv_open _ _ _, rfl, rfl⟩, by unfold ArgsLegal; decide⟩

theorem inv_closed_high : Inv (idle false 1 2 3) := by
  constructor
  case frame_in_buffer => exact fun h => absurd h (by decide)
  all_goals decide

/-- MODE 0, 1 and 2. -/
theorem witness_OpenConnects :
    (Inv (idle false 0 0 3) ∧ Inv (idle false 1 2 3) ∧ Inv (idle false 2 7 3)) ∧
    ∀ s ∈ [idle false 0 0 3, idle false 1 2 3, idle false 2 7 3],
      s.busy = false ∧ s.isOpen = false ∧ s.cfgBaud ≠ 0 ∧ s.cfgBaud ∉ s.baudRefused ∧
      s.cfgLine.extractLsb' 2 2 ≠ 3#2 ∧ s.cfgRts.extractLsb' 0 2 ≠ 3#2 ∧ s.portOk = true :=
  ⟨⟨inv_closed, inv_closed_high, inv_closed_rts⟩, by decide⟩

theorem inv_closed_baud : Inv { idle false 0 0 3 with cfgBaud := 0 } := by
  constructor
  case frame_in_buffer => exact fun h => absurd h (by decide)
  all_goals decide

theorem inv_closed_refused : Inv { idle false 0 0 3 with baudRefused := [9600] } := by
  constructor
  case frame_in_buffer => exact fun h => absurd h (by decide)
  all_goals decide

theorem inv_closed_parity : Inv { idle false 0 0 3 with cfgLine := 0x0F } := by
  constructor
  case frame_in_buffer => exact fun h => absurd h (by decide)
  all_goals decide

theorem inv_closed_mode : Inv (idle false 3 0 3) := by
  constructor
  case frame_in_buffer => exact fun h => absurd h (by decide)
  all_goals decide

theorem inv_closed_port : Inv { idle false 0 0 3 with portOk := false } := by
  constructor
  case frame_in_buffer => exact fun h => absurd h (by decide)
  all_goals decide

theorem witness_OpenCornerCases :
    (Inv (idle true 1 2 3) ∧ (idle true 1 2 3).busy = false ∧ (idle true 1 2 3).isOpen = true) ∧
    (Inv { idle false 0 0 3 with cfgBaud := 0 } ∧ ({ idle false 0 0 3 with cfgBaud := 0 } : State).cfgBaud = 0) ∧
    (Inv { idle false 0 0 3 with baudRefused := [9600] } ∧ (idle false 0 0 3).cfgBaud ∈ [9600#32]) ∧
    (Inv { idle false 0 0 3 with cfgLine := 0x0F } ∧ (0x0F#32).extractLsb' 2 2 = 3#2) ∧
    (Inv (idle false 3 0 3) ∧ (idle false 3 0 3).cfgRts.extractLsb' 0 2 = 3#2) ∧
    (Inv { idle false 0 0 3 with portOk := false } ∧ (idle false 0 0 3).isOpen = false ∧
      (idle false 0 0 3).cfgBaud ≠ 0 ∧ (idle false 0 0 3).cfgBaud ∉ (idle false 0 0 3).baudRefused ∧
      (idle false 0 0 3).cfgLine.extractLsb' 2 2 ≠ 3#2 ∧ (idle false 0 0 3).cfgRts.extractLsb' 0 2 ≠ 3#2) :=
  ⟨⟨inv_open_rts, by decide⟩, ⟨inv_closed_baud, by decide⟩, ⟨inv_closed_refused, by decide⟩,
    ⟨inv_closed_parity, by decide⟩, ⟨inv_closed_mode, by decide⟩, ⟨inv_closed_port, by decide⟩⟩

theorem witness_CloseDisconnects :
    (Inv (idle true 1 2 3) ∧ (idle true 1 2 3).busy = false) ∧
    (Inv (idle false 0 0 3) ∧ (idle false 0 0 3).busy = false) := ⟨⟨inv_open_rts, rfl⟩, ⟨inv_closed, rfl⟩⟩

theorem witness_BadArgumentsNeverReachTheWire :
    (∀ slave addr arg, Inv (withArgs (idle true 0 0 3) slave addr arg) ∧
      (withArgs (idle true 0 0 3) slave addr arg).busy = false) ∧
    ¬ ArgsLegal .rdcoil (withArgs (idle true 0 0 3) 1 0 2001) ∧
    ¬ ArgsLegal .rdcoil (withArgs (idle true 0 0 3) 1 0 0) ∧
    ¬ ArgsLegal .rdireg (withArgs (idle true 0 0 3) 1 0 126) ∧
    ¬ ArgsLegal .rdhreg (withArgs (idle true 0 0 3) 1 0x10000 1) ∧
    ¬ ArgsLegal .wrcoil (withArgs (idle true 0 0 3) 1 0 2) ∧
    ¬ ArgsLegal .wrreg (withArgs (idle true 0 0 3) 248 0 1) ∧
    ¬ ArgsLegal .wrregs (withArgs (idle true 0 0 3) 1 0 124) :=
  ⟨fun _ _ _ => ⟨inv_withArgs inv_open _ _ _, rfl⟩, by unfold ArgsLegal; decide⟩

theorem witness_ClosedBlockAnswersClosedError :
    (Inv (withArgs (idle false 2 7 3) 1 8 1) ∧ (withArgs (idle false 2 7 3) 1 8 1).isOpen = false) ∧
    ∀ op, ArgsLegal op (withArgs (idle false 2 7 3) 1 8 1) :=
  ⟨⟨inv_withArgs inv_closed_rts _ _ _, rfl⟩, fun op => by unfold ArgsLegal; cases op <;> decide⟩

theorem witness_TickInPre :
    ((inFlight .pre 1 2 1).phase = .pre ∧ 1 ≤ (inFlight .pre 1 2 1).timer.toNat) ∧
    ((inFlight .pre 1 2 2).phase = .pre ∧ 1 ≤ (inFlight .pre 1 2 2).timer.toNat) := by decide

theorem witness_TickInPost : Inv (inFlight .post 1 2 1) ∧ (inFlight .post 1 2 1).phase = .post := ⟨inv_post, rfl⟩

theorem witness_TickInRx :
    (Inv (inFlight .rx 1 2 1) ∧ (inFlight .rx 1 2 1).phase = .rx) ∧
    (Inv (inFlight .rx 1 2 3) ∧ (inFlight .rx 1 2 3).phase = .rx) := ⟨⟨inv_rx, rfl⟩, ⟨inv_rx_three, rfl⟩⟩

theorem witness_TicksAndBytesOutsideTheirPhases :
    (idle true 0 0 3).phase = .idle ∧ (inFlight .tx 0 0 0).phase = .tx ∧ (inFlight .pre 1 2 2).phase ≠ .rx ∧
    (inFlight .post 1 2 1).phase ≠ .rx := by decide

theorem witness_TxAcceptOutsideTx :
    (inFlight .pre 1 2 2).phase ≠ .tx ∧ (inFlight .rx 1 2 1).phase ≠ .tx ∧ (idle true 0 0 3).phase ≠ .tx := by
  decide

theorem inv_tx_last : Inv { inFlight .tx 1 2 0 with txIdx := 7 } := by
  constructor
  case frame_in_buffer => exact fun _ => ⟨Vector.replicate 125 0, by decide +kernel⟩
  all_goals decide

theorem witness_TxAcceptHandsOverOneByte :
    (Inv (inFlight .tx 0 0 0) ∧ (inFlight .tx 0 0 0).phase = .tx) ∧
    (Inv { inFlight .tx 1 2 0 with txIdx := 7 } ∧ (inFlight .tx 1 2 0).phase = .tx) :=
  ⟨⟨inv_tx, rfl⟩, ⟨inv_tx_last, rfl⟩⟩

theorem inv_rx_last : Inv { inFlight .rx 1 2 1 with rxCnt := 7 } := by
  constructor
  case frame_in_buffer => exact fun _ => ⟨Vector.replicate 125 0, by decide +kernel⟩
  all_goals decide

theorem witness_RxByteCollectsAndFinishes :
    (Inv (inFlight .rx 1 2 1) ∧ (inFlight .rx 1 2 1).phase = .rx) ∧
    (Inv { inFlight .rx 1 2 1 with rxCnt := 7 } ∧ (inFlight .rx 1 2 1).phase = .rx) ∧
    (Inv (awaiting 3 1) ∧ (awaiting 3 1).phase = .rx) :=
  ⟨⟨inv_rx, rfl⟩, ⟨inv_rx_last, rfl⟩, ⟨inv_awaiting, rfl⟩⟩

theorem witness_IoFaultAbandonsExchange :
    (Inv (inFlight .tx 1 2 0) ∧ (inFlight .tx 1 2 0).busy = true) ∧
    (Inv (idle true 1 2 3) ∧ (idle true 1 2 3).busy = false) := ⟨⟨inv_tx_rts, rfl⟩, ⟨inv_open_rts, rfl⟩⟩

/-- Width, alignment and range each. -/
theorem witness_BadAccessIsBusError :
    ¬ (2 = 4 ∧ 0x000 % 4 = 0 ∧ 0x000 < 0x1000) ∧ ¬ (4 = 4 ∧ 0x002 % 4 = 0 ∧ 0x002 < 0x1000) ∧
    ¬ (4 = 4 ∧ 0x1000 % 4 = 0 ∧ 0x1000 < 0x1000) := by decide

theorem witness_UnmappedOffsetsReadZero :
    ∀ off ∈ [0x040, 0x1FC, 0x3F4, 0x3FC, 0xC00, 0xFFC], off % 4 = 0 ∧
      (0x040 ≤ off ∧ off ≤ 0x1FC ∨ 0x3F4 ≤ off ∧ off ≤ 0x3FC ∨ 0xC00 ≤ off ∧ off ≤ 0xFFC) := by decide

theorem witness_ReadOnlyRegistersIgnoreWrites :
    ∀ off ∈ [0x018, 0x01C, 0x034, 0x03C, 0x400, 0xBFC], off % 4 = 0 ∧
      (off = 0x018 ∨ off = 0x01C ∨ 0x034 ≤ off ∧ off ≤ 0x03C ∨ 0x400 ≤ off ∧ off ≤ 0xBFC) := by decide

theorem witness_BufferIndices : 0 < 125 ∧ 124 < 125 ∧ 0 < 256 ∧ 255 < 256 := by decide

theorem witness_ConfigWriteRule :
    (idle false 0 0 3).isOpen = false ∧ (idle true 0 0 3).isOpen = true ∧
    0x020 ∈ [0x020, 0x024, 0x028, 0x02C, 0x030] ∧ 0x030 ∈ [0x020, 0x024, 0x028, 0x02C, 0x030] := by decide

/-- Part 1, T4: the first and the last bit of the shortest frame (part 2.4). -/
theorem witness_SingleBitFlipIsChecksumError :
    0 < (encodeFrame 1 6 []).length ∧ 3 < (encodeFrame 1 6 []).length ∧ 0 < 8 ∧ 7 < 8 := by decide

theorem witness_GenericRoundTrip :
    (0x06#8).getLsbD 7 = false ∧ (0x86#8).getLsbD 7 = true ∧ ([0x02] : List Byte) = 0x02 :: [] ∧
    ([] : List Byte) = [] := by decide

/-- Part 2.4: `01 06 28`, `01 06 28 17` and `01 06 80 22`. -/
theorem witness_LengthThenChecksum :
    ([0x01, 0x06, 0x28] : List Byte).length < 4 ∧
    (([0x01, 0x06, 0x28, 0x17] : List Byte) = [0x01, 0x06] ++ [0x28, 0x17] ∧
      2 ≤ ([0x01, 0x06] : List Byte).length ∧ crc16 [0x01, 0x06] ≠ (0x17#8 ++ 0x28#8 : Half)) ∧
    ((0x06#8).getLsbD 7 = false ∧ ([0x01, 0x06, 0x80, 0x22] : List Byte) = withCrc [0x01, 0x06]) := by
  decide +kernel

/-- A request of `n` items by the operation `op`. -/
def requestFor (op : BusOp) (n : Half) : Request := ⟨op, 17, 0x6B, n⟩

theorem witness_ReadResponseAcceptedIff :
    ∀ rq ∈ [requestFor .rdcoil 1, requestFor .rdcoil 2000, requestFor .rdireg 125, requestFor .rdhreg 1],
      (rq.op = .rdcoil ∨ rq.op = .rdireg ∨ rq.op = .rdhreg) ∧ argInRange rq.op rq.arg.toNat = true := by decide

theorem witness_WriteResponseAcceptedIff :
    (theRequest.op = .wrcoil ∨ theRequest.op = .wrreg ∨ theRequest.op = .wrregs) ∧
    6 ≤ (requestFrame theRequest (Vector.replicate 125 0)).length := by decide

/-- Parts 2.4 and 2.5: a frame for each clause of `RejectedResponse`, as a response to WRREG 1, 10, 42. -/
theorem witness_RejectedResponse :
    ([0x01, 0x06, 0x28] : List Byte).length < 4 ∧
    (2 ≤ ([0x01, 0x06] : List Byte).length ∧ crc16 [0x01, 0x06] ≠ (0x17#8 ++ 0x28#8 : Half)) ∧
    ((0x86#8).getLsbD 7 = true ∧ ([0x01, 0x86, 0x02, 0xC3, 0xA1] : List Byte) = withCrc [0x01, 0x86, 0x02]) ∧
    ([0x01, 0x86, 0x81, 0x82] : List Byte) = withCrc [0x01, 0x86] ∧
    ((0x06#8).getLsbD 7 = false ∧
      ([0x02, 0x06, 0x00, 0x0A, 0x00, 0x2A, 0x28, 0x24] : List Byte) =
        withCrc [0x02, 0x06, 0x00, 0x0A, 0x00, 0x2A] ∧
      withCrc [0x02, 0x06, 0x00, 0x0A, 0x00, 0x2A] ≠ withCrc [0x01, 0x06, 0x00, 0x0A, 0x00, 0x2A]) := by
  decide +kernel

theorem witness_CoilWriteBack :
    (∀ rq ∈ [requestFor .rdcoil 2000],
      rq.op = .rdcoil ∧ 1 ≤ rq.arg.toNat ∧ rq.arg.toNat ≤ 2000 ∧
      (List.replicate 250 (0xFF#8)).length = (rq.arg.toNat + 7) / 8 ∧ 124 < (rq.arg.toNat + 15) / 16) ∧
    (∀ rq ∈ [requestFor .rdcoil 1],
      rq.op = .rdcoil ∧ 1 ≤ rq.arg.toNat ∧ rq.arg.toNat ≤ 2000 ∧
      ([0xFF] : List Byte).length = (rq.arg.toNat + 7) / 8 ∧ 0 < (rq.arg.toNat + 15) / 16 ∧
      (rq.arg.toNat + 15) / 16 ≤ 1) := by decide +kernel

theorem witness_RegisterWriteBack :
    (∀ rq ∈ [requestFor .rdireg 125],
      (rq.op = .rdireg ∨ rq.op = .rdhreg) ∧ rq.arg.toNat ≤ 125 ∧
      (List.replicate 250 (0xFF#8)).length = 2 * rq.arg.toNat) ∧
    (∀ rq ∈ [requestFor .rdhreg 1],
      (rq.op = .rdireg ∨ rq.op = .rdhreg) ∧ rq.arg.toNat ≤ 125 ∧
      ([0x00, 0x0A] : List Byte).length = 2 * rq.arg.toNat) ∧
    theRequest.op = .wrreg := by decide +kernel

/-- A `TxAccept` pending in TX with the line asserted. -/
def sendingState : State := { inFlight .tx 1 2 0 with inputs := [.txAccept], trace := [.pin .high] }

theorem inv_sendingState : Inv sendingState := by
  constructor
  case frame_in_buffer => exact fun _ => ⟨Vector.replicate 125 0, by decide +kernel⟩
  all_goals decide

/-- The state after it: the first byte of the frame appended to the trace. -/
def sentState : State :=
  { sendingState with txIdx := 1, inputs := [], trace := [.pin .high, .tx sendingState.txbuf[0]] }

theorem sendingState_steps : step sendingState = .next sentState := rfl

theorem sentState_trace : sentState.trace = sendingState.trace ++ [.tx sendingState.txbuf[0]] := by
  simp only [sentState, sendingState, List.cons_append, List.nil_append]

/-- Part 1, T1: that byte is 01. -/
theorem test_first_byte : sendingState.txbuf[0] = 0x01 := by decide +kernel

theorem witness_StepKeepsInvariant : Inv sendingState ∧ step sendingState = .next sentState :=
  ⟨inv_sendingState, sendingState_steps⟩

theorem witness_InvariantStatesNeverStop : Inv (inFlight .post 1 2 1) := inv_post

theorem witness_StepKeepsTraceInOrder :
    Inv sendingState ∧ TraceInOrder sendingState ∧ step sendingState = .next sentState :=
  ⟨inv_sendingState, ⟨[], by decide⟩, sendingState_steps⟩

theorem witness_BytesLeaveOnlyInTheWindow :
    Inv sendingState ∧ step sendingState = .next sentState ∧ sentState.trace = sendingState.trace ++ [.tx sendingState.txbuf[0]] ∧
    rtsEnabled sendingState = true := ⟨inv_sendingState, sendingState_steps, sentState_trace, by decide⟩

theorem witness_DisabledRtsNeverTouchesThePin :
    Inv (idle true 0 0 3) ∧ (idle true 0 0 3).cfgRts.extractLsb' 0 2 = 0#2 ∧
    step (idle true 0 0 3) = .next (idle true 0 0 3) := ⟨inv_open, by decide, rfl⟩

theorem witness_ExchangeIsNotDisturbed :
    (Inv (inFlight .tx 0 0 0) ∧ (inFlight .tx 0 0 0).busy = true) ∧
    Leads (inFlight .tx 0 0 0) .tick (inFlight .tx 0 0 0) ∧
    Leads (inFlight .tx 0 0 0) .ioFault (complete .ioError 0 (inFlight .tx 0 0 0)) :=
  ⟨⟨inv_tx, rfl⟩, rfl, rfl⟩

theorem witness_DataIsAllOrNothing :
    Leads (idle true 0 0 3) (.hostWrite (0x200 + 4 * 124) 4 7)
      { idle true 0 0 3 with bus := .ack, data := (Vector.replicate 125 0).set 124 7 } ∧
    (Vector.replicate 125 0).set 124 7 ≠ (idle true 0 0 3).data :=
  ⟨rfl, by decide +kernel⟩

theorem witness_ConfigurationFixedWhileOpen :
    (Inv (inFlight .tx 0 0 0) ∧ Leads (inFlight .tx 0 0 0) .tick (inFlight .tx 0 0 0) ∧
      (inFlight .tx 0 0 0).isOpen = true) ∧
    (Inv (idle false 0 0 3) ∧
      Leads (idle false 0 0 3) (.hostWrite 0x008 4 8)
        { idle false 0 0 3 with bus := .ack, cmd := 8, isOpen := true, done := true } ∧
      (idle false 0 0 3).isOpen = false) :=
  ⟨⟨inv_tx, rfl, rfl⟩, ⟨inv_closed, rfl, rfl⟩⟩

theorem witness_PreDelayLastsExactly :
    (inFlight .pre 1 2 1).phase = .pre ∧ 0 < (inFlight .pre 1 2 1).timer.toNat ∧
    (inFlight .pre 1 2 2).phase = .pre ∧ 1 < (inFlight .pre 1 2 2).timer.toNat := by decide

/-- No byte; 4 bytes of an exception response; 10 of the 11 bytes of the response of part 2.5. -/
theorem witness_ResponseTimeoutIsExact :
    (Inv (inFlight .rx 1 2 1) ∧ (inFlight .rx 1 2 1).phase = .rx ∧
      ([] : List Event).count .tick + 1 = (inFlight .rx 1 2 1).timer.toNat ∧
      0 < expectedAfter (inFlight .rx 1 2 1) []) ∧
    (Inv (inFlight .rx 1 2 3) ∧ (inFlight .rx 1 2 3).phase = .rx ∧
      ∀ es ∈ [[Event.tick, .rxByte 1, .rxByte 0x86, .rxByte 2, .rxByte 0xC3, .tick]],
        es.all isTickOrByte = true ∧ es.count .tick + 1 = (inFlight .rx 1 2 3).timer.toNat ∧
        (inFlight .rx 1 2 3).rxCnt.toNat + (bytesIn es).length < expectedAfter (inFlight .rx 1 2 3) es ∧
        expectedAfter (inFlight .rx 1 2 3) es = 5) ∧
    (Inv (awaiting 3 1) ∧ (awaiting 3 1).phase = .rx ∧
      ∀ es ∈ [[0x11, 0x03, 0x06, 0xAE, 0x41, 0x56, 0x52, 0x43, 0x40, 0x49].map Event.rxByte],
        es.all isTickOrByte = true ∧ es.count .tick + 1 = (awaiting 3 1).timer.toNat ∧
        (awaiting 3 1).rxCnt.toNat + (bytesIn es).length = 10 ∧ expectedAfter (awaiting 3 1) es = 11) :=
  ⟨⟨inv_rx, by decide⟩, ⟨inv_rx_three, by decide⟩, ⟨inv_awaiting, by decide⟩⟩

/-- From PRE and from RX, with other events in between. -/
theorem witness_FairEnvironmentEndsExchange :
    (Inv (inFlight .pre 1 2 2) ∧ (inFlight .pre 1 2 2).busy = true ∧
      (List.replicate 2 Event.tick ++ List.replicate 8 Event.txAccept ++ List.replicate (2 + 3) Event.tick).Sublist
        (List.replicate 2 Event.tick ++ [.rxByte 1, .tick] ++ List.replicate 8 Event.txAccept ++
          [.hostWrite 0x008 4 9] ++ List.replicate 5 Event.tick)) ∧
    (Inv (inFlight .rx 1 2 1) ∧ (inFlight .rx 1 2 1).busy = true ∧
      (List.replicate 1 Event.tick ++ List.replicate 8 Event.txAccept ++ List.replicate (2 + 3) Event.tick).Sublist
        (List.replicate 1 Event.tick ++ List.replicate 8 Event.txAccept ++ List.replicate 5 Event.tick)) :=
  ⟨⟨inv_pre, by decide⟩, ⟨inv_rx, by decide⟩⟩

theorem witness_CompletingByteBeatsTimeout :
    Inv { inFlight .rx 1 2 1 with rxCnt := 7 } ∧ (inFlight .rx 1 2 1).phase = .rx ∧
    (7 : Count) + 1 = (inFlight .rx 1 2 1).expLen := ⟨inv_rx_last, by decide⟩

theorem witness_WrregLineRunsWrreg : (idle true 0 0 3).busy = false := rfl

theorem witness_InstancesAreIndependent :
    ([idle true 0 0 3, sendingState] : Platform)[1]? = some sendingState ∧ step sendingState = .next sentState :=
  ⟨rfl, sendingState_steps⟩

/-- A state outside the invariant steps to a fault (log 7). -/
theorem witness_InstanceStops :
    step { idle true 0 0 3 with phase := .rx, inputs := [.tick] } = .fault .timerUnderflow := rfl

end Sys2Proof.Tests
end

section
/-!
PROOF. The state after reset (10_state.md section 9).
-/

namespace Sys2Proof.Machine

/-- R44: a pin the block does not drive is high impedance, whatever the RTS mode and `de` are. -/
theorem dePin_of_not_driven {s : State} (h : s.deDrv = false) : dePin s = .z := if_pos h

end Sys2Proof.Machine

namespace Sys2Proof.Safety

open Sys2Proof.Machine

/-- Settles O25: `State.reset` gives each register of R53 its value, and the pin follows from `de_drv = 0`. -/
theorem resetStateHasResetValues : Obligations.ResetStateHasResetValues := by
  have hpin : dePin State.reset = .z := dePin_of_not_driven rfl
  exact ⟨rfl, rfl, rfl, rfl, rfl, rfl, rfl, hpin, rfl, rfl, rfl, rfl, rfl, rfl, rfl, rfl, rfl, rfl, rfl, rfl,
    rfl, rfl, rfl, rfl, rfl⟩

end Sys2Proof.Safety
end

section
/-!
PROOF. Host accesses outside the register map (20_memory.md): those that are not performed (R62), and those of
unmapped offsets (R66).
-/

namespace Sys2Proof.Machine

/-- R62, the other way round from `accessLegal_iff`: which accesses are not performed. -/
theorem accessLegal_eq_false_iff (off size : Nat) :
    accessLegal off size = false ↔ ¬ (size = 4 ∧ off % 4 = 0 ∧ off < 0x1000) := by
  rw [← accessLegal_iff, Bool.not_eq_true]

/-- A read that is not performed records `BusError` and nothing else (R62). -/
theorem hostRead_of_not_legal {off size : Nat} (h : accessLegal off size = false) (s : State) :
    hostRead off size s = { s with bus := .busError } := by
  unfold hostRead
  rw [h, if_neg Bool.false_ne_true]

/-- A write that is not performed records `BusError` and nothing else (R62). -/
theorem hostWrite_of_not_legal {off size : Nat} (h : accessLegal off size = false) (v : Word) (s : State) :
    hostWrite off size v s = .next { s with bus := .busError } := by
  obtain ⟨hlegal, -⟩ | ⟨-, hw⟩ := hostWrite_cases off size v s
  · simp [h] at hlegal
  · exact hw

/-- The value of a read where no register stands (R66). -/
@[simp] theorem readReg_unmapped (s : State) : readReg .unmapped s = 0 := rfl

/-- A write where no register stands is ignored, without setting `rej` (R66). -/
@[simp] theorem writeReg_unmapped (v : Word) (s : State) : writeReg .unmapped v s = .next s := rfl

end Sys2Proof.Machine

namespace Sys2Proof.Safety

open Sys2Proof.Machine

/-- Settles O26: `accessLegal` refuses exactly these accesses, and a refused one only records the answer. -/
theorem badAccessIsBusError : Obligations.BadAccessIsBusError := by
  intro s off size v hbad
  have hillegal : accessLegal off size = false := (accessLegal_eq_false_iff off size).2 hbad
  exact ⟨congrArg _ (hostRead_of_not_legal hillegal s), hostWrite_of_not_legal hillegal v s⟩

/-- Settles O27: the three ranges lie inside the window, so the access is performed, and none of their aligned
offsets holds a register. -/
theorem unmappedOffsetsReadZero : Obligations.UnmappedOffsetsReadZero := by
  intro s off v haligned hrange
  have hwindow : off < 0x1000 := by omega
  have hunmapped : regAt off = .unmapped := regAt_unmapped off (by omega)
  have hread : hostRead off 4 s = { s with bus := .data 0 } := by
    rw [hostRead_eq s off haligned hwindow, hunmapped, readReg_unmapped]
  have hwrite : hostWrite off 4 v s = .next { s with bus := .ack } := by
    rw [hostWrite_eq s off v haligned hwindow, hunmapped, writeReg_unmapped]
  exact ⟨congrArg _ hread, hwrite⟩

end Sys2Proof.Safety
end

section
/-!
PROOF. Command words that encode no command (30_encoding.md): the decoder refuses them by name (R80, R83), and a
`CMD` write of a refused word in an idle block completes on the spot (R81, R226).
-/

namespace Sys2Proof

/-- The opcode map has no entry at the reserved opcodes (R83). -/
theorem opcodeMap_of_reserved :
    ∀ op ∈ [0x0#4, 0x7#4, 0xA#4, 0xB#4, 0xC#4, 0xD#4, 0xE#4, 0xF#4], opcodeMap op = none := by decide

/-- A word with a bit of 31:4 set is refused, whatever its opcode (R80). -/
theorem decode_of_zeroField_ne {w : Word} (h : w.extractLsb' 4 28 ≠ 0#28) :
    decode w = .error .zeroFieldSet := by
  unfold decode
  rw [if_pos h]

/-- A word whose field ZERO is 0 is refused when the opcode map has no entry at its opcode (R81, R83). -/
theorem decode_of_opcodeMap_none {w : Word} (hz : w.extractLsb' 4 28 = 0#28)
    (hop : opcodeMap (w.extractLsb' 0 4) = none) :
    decode w = .error (.reservedOpcode (w.extractLsb' 0 4)) := by
  unfold decode
  rw [if_neg (not_not_intro hz), hop]

/-- Every reserved word of R83 is refused, for its field ZERO first. -/
theorem decode_of_reserved {w : Word}
    (h : w.extractLsb' 4 28 ≠ 0#28 ∨
      w.extractLsb' 0 4 ∈ [0x0#4, 0x7#4, 0xA#4, 0xB#4, 0xC#4, 0xD#4, 0xE#4, 0xF#4]) :
    ∃ e, decode w = .error e := by
  by_cases hz : w.extractLsb' 4 28 = 0#28
  · have hop : opcodeMap (w.extractLsb' 0 4) = none := opcodeMap_of_reserved _ (h.resolve_left (absurd hz))
    exact ⟨_, decode_of_opcodeMap_none hz hop⟩
  · exact ⟨_, decode_of_zeroField_ne hz⟩

end Sys2Proof

namespace Sys2Proof.Machine

/-- A 32-bit write at 0x008 is a write of `CMD` (R21, R64). -/
theorem hostWrite_cmd (v : Word) (s : State) : hostWrite 0x008 4 v s = start v { s with bus := .ack } := by
  rw [hostWrite_eq s 0x008 v (by decide) (by decide), regAt_control 0x008 (by decide)]
  rfl

/-- A block that is not busy completes a refused word with InvalidArgument (R81, R226). -/
theorem start_of_decode_error {v : Word} {s : State} (hb : s.busy = false) {e : DecodeError}
    (hd : decode v = .error e) : start v s = .next (complete .invalidArgument 0 (accept v s)) := by
  unfold start
  rw [hb, if_neg Bool.false_ne_true, hd]

end Sys2Proof.Machine

namespace Sys2Proof.Safety

open Sys2Proof.Machine

/-- Settles O3: the decoder refuses the word, and completing a command that started no exchange writes only `done`
and `ERR`, because an idle block has no asserted line to release. -/
theorem reservedWordsAreInvalidArgument : Obligations.ReservedWordsAreInvalidArgument := by
  intro s w hinv hbusy hreserved
  obtain ⟨e, hdecode⟩ := decode_of_reserved hreserved
  obtain ⟨hphase, hde⟩ := idle_of_not_busy hinv hbusy
  calc hostWrite 0x008 4 w s
      = start w { s with bus := .ack } := hostWrite_cmd w s
    _ = .next (complete .invalidArgument 0 (accept w { s with bus := .ack })) :=
        start_of_decode_error hbusy hdecode
    _ = .next { s with bus := .ack, cmd := w, errCode := 2, errExc := 0, done := true } :=
        congrArg _ (complete_of_idle (s := accept w { s with bus := .ack }) hphase hde hbusy .invalidArgument 0)

end Sys2Proof.Safety
end

section
/-!
PROOF. The generic decoder on a frame given as its body and its CRC bytes (41_frame_codec.md section 2): what R113
reads of such a frame, and the length, CRC and normal cases of R124 to R127.
-/

namespace Sys2Proof.Machine

/-- `{h, l}` of R7 is concatenation, high byte first. -/
theorem joinBytes_eq_append (h l : Byte) : joinBytes h l = h ++ l := by
  rw [BitVec.append_def, BitVec.shiftLeftZeroExtend_eq, BitVec.setWidth'_eq]
  rfl

/-- The CRC covers everything before the last two bytes (R113). -/
@[simp] theorem crcCovered_append_pair (body : List Byte) (lo hi : Byte) :
    crcCovered (body ++ [lo, hi]) = body := by
  simp [crcCovered]

/-- The CRC field is the last two bytes, low byte first (R113). -/
@[simp] theorem crcField_append_pair (body : List Byte) (lo hi : Byte) :
    crcField (body ++ [lo, hi]) = hi ++ lo := by
  simp [crcField, byteAt, joinBytes_eq_append]

/-- The length is checked first (R125). -/
theorem decodeGeneric_of_length_lt {f : List Byte} (h : f.length < 4) :
    decodeGeneric f = .err .framingError 0 := by
  unfold decodeGeneric
  rw [if_pos h]

/-- The CRC is checked next, before any byte of the body is read (R125). -/
theorem decodeGeneric_of_crc_ne {f : List Byte} (hlen : 4 ≤ f.length)
    (hcrc : crc16 (crcCovered f) ≠ crcField f) : decodeGeneric f = .err .checksumError 0 := by
  unfold decodeGeneric
  rw [if_neg (Nat.not_lt.2 hlen), if_pos hcrc]

/-- A frame with a right CRC and bit 7 of its function code clear denotes its payload (R127). -/
theorem decodeGeneric_of_normal {f : List Byte} (hlen : 4 ≤ f.length) (hcrc : crc16 (crcCovered f) = crcField f)
    (hbit : (byteAt f 1).getLsbD 7 = false) : decodeGeneric f = .ok ((crcCovered f).drop 2) := by
  unfold decodeGeneric
  rw [if_neg (Nat.not_lt.2 hlen), if_neg (not_not_intro hcrc), hbit, if_neg Bool.false_ne_true]

end Sys2Proof.Machine

namespace Sys2Proof.Safety

open Sys2Proof.Machine

@[simp] theorem withCrc_length (body : List Byte) : (withCrc body).length = body.length + 2 := by
  simp [withCrc]

@[simp] theorem crcCovered_withCrc (body : List Byte) : crcCovered (withCrc body) = body :=
  crcCovered_append_pair body _ _

/-- The two CRC bytes of a frame put together again are the CRC of its body (R113). -/
@[simp] theorem crcField_withCrc (body : List Byte) : crcField (withCrc body) = crc16 body :=
  calc crcField (withCrc body)
      = (crc16 body).extractLsb' 8 8 ++ (crc16 body).extractLsb' 0 8 := crcField_append_pair body _ _
    _ = (crc16 body).extractLsb' 0 16 :=
        BitVec.extractLsb'_append_extractLsb'_eq_extractLsb' (by decide)
    _ = crc16 body := BitVec.extractLsb'_eq_self

/-- The generic decoder recovers the payload of a frame whose function code has bit 7 clear (R127). -/
theorem decodeGeneric_withCrc {fc : Byte} (hbit : fc.getLsbD 7 = false) (slave : Byte) (p : List Byte) :
    decodeGeneric (withCrc (slave :: fc :: p)) = .ok p := by
  have hlen : 4 ≤ (withCrc (slave :: fc :: p)).length := by simp
  have hcrc : crc16 (crcCovered (withCrc (slave :: fc :: p))) = crcField (withCrc (slave :: fc :: p)) := by simp
  have hnormal := decodeGeneric_of_normal hlen hcrc hbit
  rwa [crcCovered_withCrc] at hnormal

/-- Settles O40: the decoder checks the length, then the CRC of the bytes before the last two, and a frame that
passes both with bit 7 clear denotes its payload, here the empty one. -/
theorem lengthThenChecksum : Obligations.LengthThenChecksum := by
  intro f
  refine ⟨decodeGeneric_of_length_lt, ?mismatch, ?emptyPayload⟩
  case mismatch =>
    rintro body lo hi rfl hbody hcrc
    exact decodeGeneric_of_crc_ne (by simpa using hbody) (by simpa using hcrc)
  case emptyPayload =>
    rintro slave fc hbit rfl
    exact decodeGeneric_withCrc hbit slave []

end Sys2Proof.Safety
end

section
/-!
PROOF. The timed phases PRE and POST, and `TxAccept` outside TX (42_serial_transport.md sections 2 to 4).
-/

namespace Sys2Proof.Machine

/-- A running timer is counted down, and the phase ends at 0 (R47, R156, R162, R167). -/
theorem countDown_of_running {s : State} (h : 1 ≤ s.timer.toNat) (reached : State → State) :
    countDown reached s =
      .next (if s.timer = 1 then reached { s with timer := 0 } else { s with timer := s.timer - 1 }) := by
  obtain ⟨h0, -⟩ | ⟨h1, hlast⟩ | ⟨-, h1, hcount⟩ := countDown_cases reached s
  · simp [h0] at h
  · rw [hlast, if_pos h1]
  · rw [hcount, if_neg h1]

/-- `Tick` in PRE counts down to `EnterTx` (R156, R165). -/
theorem tick_of_pre {s : State} (h : s.phase = .pre) : tick s = countDown enterTx s := by
  unfold tick
  rw [h]

/-- `Tick` in POST counts down to `EnterRx` (R162, R165). -/
theorem tick_of_post {s : State} (h : s.phase = .post) : tick s = countDown enterRx s := by
  unfold tick
  rw [h]

/-- The serializer takes nothing from a block that presents nothing (R159). -/
theorem txAccept_of_phase_ne {s : State} (h : s.phase ≠ .tx) : txAccept s = .next s := if_neg h

/-- No byte is presented outside TX (R157, R159). -/
theorem txValid_eq_false_iff (s : State) : txValid s = false ↔ s.phase ≠ .tx := by
  simp [txValid]

end Sys2Proof.Machine

namespace Sys2Proof.Safety

open Sys2Proof.Machine

/-- Settles O16: the timer runs, and what it counts down to is `EnterTx`. -/
theorem tickInPre : Obligations.TickInPre := by
  intro s hphase hrunning
  exact (tick_of_pre hphase).trans (countDown_of_running hrunning enterTx)

/-- Settles O17: R52 (e) has the timer running in POST, and `EnterRx` releases the line and overwrites the timer. -/
theorem tickInPost : Obligations.TickInPost := by
  intro s hinv hphase
  obtain ⟨hrunning, -⟩ := hinv.delay_running (.inr hphase)
  have hdriven : s.de = true → s.deDrv = true ∧ rtsEnabled s = true := driven_of_asserted hinv
  have henter : enterRx { s with timer := 0 } = receiverEnabled s :=
    enterRx_eq_receiverEnabled (s := { s with timer := 0 }) hdriven
  calc tick s
      = countDown enterRx s := tick_of_post hphase
    _ = .next (if s.timer = 1 then enterRx { s with timer := 0 } else { s with timer := s.timer - 1 }) :=
        countDown_of_running hrunning enterRx
    _ = .next (if s.timer = 1 then receiverEnabled s else { s with timer := s.timer - 1 }) := by rw [henter]

/-- Settles O20: outside TX no byte is presented, so none is taken. -/
theorem txAcceptOutsideTx : Obligations.TxAcceptOutsideTx := by
  intro s hphase
  exact ⟨txAccept_of_phase_ne hphase, (txValid_eq_false_iff s).2 hphase⟩

end Sys2Proof.Safety
end

section
/-!
PROOF. The ends of an exchange in RX (42_serial_transport.md section 5): what a collected byte writes (R170, R171),
the verdict of `Finish` (R172), and `IoFault` (R174).
-/

namespace Sys2Proof.Machine

/-- The length is revised exactly when the byte just stored is the second one and has bit 7 set (R171). -/
theorem reviseCondition_iff (b : Byte) (s : State) (h : s.rxCnt.toNat < 256) :
    (s.rxCnt + 1 = 2 ∧ (s.rxbuf.set s.rxCnt.toNat b)[1].getLsbD 7 = true) ↔
      s.rxCnt = 1 ∧ b.getLsbD 7 = true := by
  have hcount : s.rxCnt + 1 = 2 ↔ s.rxCnt = 1 := by
    constructor <;> intro h <;> bv_omega
  rw [hcount]
  refine and_congr_right fun hone => ?_
  simp [hone]

/-- Everything a collected byte writes, in terms of the state before it (R170, R171). -/
theorem collect_eq_of_byte (b : Byte) (s : State) (h : s.rxCnt.toNat < 256) :
    collect b s h =
      { s with
        rxbuf := s.rxbuf.set s.rxCnt.toNat b
        rxCnt := s.rxCnt + 1
        expLen := if s.rxCnt = 1 ∧ b.getLsbD 7 = true then 5 else s.expLen } := by
  simp only [collect_eq, reviseCondition_iff b s h]

/-- A collected byte goes to `RXBUF[rx_cnt]` and to no other place of the buffer (R170). -/
theorem collect_rxbuf_getElem (b : Byte) (s : State) (h : s.rxCnt.toNat < 256) (i : Nat) (hi : i < 256) :
    (collect b s h).rxbuf[i] = if i = s.rxCnt.toNat then b else s.rxbuf[i] := by
  simp only [collect_eq, Vector.getElem_set, eq_comm (a := i)]

/-- Byte `i` of the bytes collected is `RXBUF[i]` (R172). -/
theorem byteAt_receivedFrame {s : State} {i : Nat} (h : i < (receivedFrame s).length) (hi : i < 256) :
    byteAt (receivedFrame s) i = s.rxbuf[i] := by
  unfold byteAt
  rw [List.getD_eq_getElem _ _ h]
  simp [receivedFrame]

/-- A byte in RX is collected, and completes the command exactly when it is the last one expected (R170, R172). -/
theorem rxByte_of_rx {s : State} (hp : s.phase = .rx) (h : s.rxCnt.toNat < 256) (b : Byte) :
    rxByte b s = .next
      (if (collect b s h).rxCnt = (collect b s h).expLen then finish (collect b s h) else collect b s h) := by
  obtain ⟨hne, -⟩ | ⟨-, hge, -⟩ | ⟨-, _, hlast, hs⟩ | ⟨-, _, hmore, hs⟩ := rxByte_cases b s
  · exact absurd hp hne
  · exact absurd h hge
  · rw [hs, if_pos hlast]
  · rw [hs, if_neg hmore]

/-- A response that the decoder rejects completes with the decoder's error (R172). -/
theorem finish_of_err {s : State} {code : ErrorCode} {exc : Byte}
    (h : decodeResponse s.rq (sentFrame s) (receivedFrame s) = .err code exc) : finish s = complete code exc s := by
  unfold finish
  rw [h]

/-- A response that the decoder accepts is written back, and completes with Success (R172). -/
theorem finish_of_ok {s : State} {d : List Byte}
    (h : decodeResponse s.rq (sentFrame s) (receivedFrame s) = .ok d) :
    finish s = complete .success 0 (writeBack d s) := by
  unfold finish
  rw [h]

end Sys2Proof.Machine

namespace Sys2Proof.Safety

open Sys2Proof.Machine

/-- `Finish` in the wording of claims: the four verdicts of the decoder and the number each is reported by
(R172, R243). -/
theorem finish_completed {s : State} (h : s.de = true → s.deDrv = true ∧ rtsEnabled s = true) :
    (decodeResponse s.rq (sentFrame s) (receivedFrame s) = .err .framingError 0 ∧ finish s = completed s 6 0) ∨
    (decodeResponse s.rq (sentFrame s) (receivedFrame s) = .err .checksumError 0 ∧ finish s = completed s 7 0) ∨
    (decodeResponse s.rq (sentFrame s) (receivedFrame s) = .err .exceptionError s.rxbuf[2] ∧
      finish s = completed s 8 s.rxbuf[2]) ∨
    ∃ d, decodeResponse s.rq (sentFrame s) (receivedFrame s) = .ok d ∧
      finish s = completed { s with data := writtenBack s.rq d s.data } 0 0 := by
  have herr : ∀ {code : ErrorCode} {exc : Byte},
      decodeResponse s.rq (sentFrame s) (receivedFrame s) = .err code exc →
        finish s = completed s (errorNumber code) exc :=
    fun hd => (finish_of_err hd).trans (complete_eq_completed h _ _)
  obtain hd | hd | ⟨hlen, hd⟩ | ⟨d, hd⟩ := decodeResponse_cases s.rq (sentFrame s) (receivedFrame s)
  · exact .inl ⟨hd, herr hd⟩
  · exact .inr (.inl ⟨hd, herr hd⟩)
  · rw [byteAt_receivedFrame (by omega) (by decide)] at hd
    exact .inr (.inr (.inl ⟨hd, herr hd⟩))
  · have hok := complete_eq_completed (s := writeBack d s) h .success 0
    exact .inr (.inr (.inr ⟨d, hd, (finish_of_ok hd).trans hok⟩))

/-- Settles O22: the state after the byte is `collect`'s, which leaves the direction line alone, and `Finish`
reports the decoder's verdict on it. -/
theorem rxByteCollectsAndFinishes : Obligations.RxByteCollectsAndFinishes := by
  intro s b hinv hphase
  have hroom : s.rxCnt.toNat < 256 := by
    obtain ⟨-, hlt, -, hle⟩ := hinv.receiving hphase
    omega
  have hcollect := collect_eq_of_byte b s hroom
  have hdriven : s.de = true → s.deDrv = true ∧ rtsEnabled s = true := driven_of_asserted hinv
  have hcollected : (collect b s hroom).de = true →
      (collect b s hroom).deDrv = true ∧ rtsEnabled (collect b s hroom) = true := by
    rw [hcollect]
    exact hdriven
  have hstep := rxByte_of_rx hphase hroom b
  refine ⟨collect b s hroom, ?frame, collect_rxbuf_getElem b s hroom, fun hmore => ?unfinished,
    fun hlast => ⟨_, rfl, ?finished⟩⟩
  case frame => rw [hcollect]
  case unfinished => exact hstep.trans (by rw [if_neg hmore])
  case finished =>
    rw [if_pos hlast] at hstep
    obtain ⟨hd, hf⟩ | ⟨hd, hf⟩ | ⟨hd, hf⟩ | ⟨d, hd, hf⟩ := finish_completed hcollected <;> rw [hf] at hstep
    · exact .inl ⟨hd, hstep⟩
    · exact .inr (.inl ⟨hd, hstep⟩)
    · exact .inr (.inr (.inl ⟨hd, hstep⟩))
    · exact .inr (.inr (.inr ⟨d, hd, hstep⟩))

/-- Settles O23: `IoFault` looks at `busy` only, and the line is asserted only while the pin is driven. -/
theorem ioFaultAbandonsExchange : Obligations.IoFaultAbandonsExchange := by
  intro s hinv
  constructor
  · intro hbusy
    have hcomplete : complete .ioError 0 s = completed s 5 0 :=
      complete_eq_completed (driven_of_asserted hinv) .ioError 0
    exact congrArg _ ((if_pos hbusy).trans hcomplete)
  · intro hidle
    exact congrArg _ (if_neg (by simp [hidle]))

end Sys2Proof.Safety
end

section
/-!
PROOF. What a completed read leaves in `DATA` (43_rtu_master.md): the coils of R198, the registers of R199, and the
writes, which leave it alone.
-/

namespace Sys2Proof.Machine

/-- A pair of bytes `{h, l}` numbers the bits of its low byte first (R7). -/
theorem getLsbD_joinBytes (h l : Byte) (j : Nat) :
    (joinBytes h l).getLsbD j = if j < 8 then l.getLsbD j else h.getLsbD (j - 8) := by
  rw [joinBytes_eq_append, BitVec.getLsbD_append]

/-- Bit `j` of the bytes `{d[2w+1], d[2w]}` is coil `16w + j`, which R135 packs at bit `(16w + j) mod 8` of byte
`(16w + j) / 8`. -/
theorem getLsbD_coilPair (d : List Byte) {w j : Nat} (hj : j < 16) :
    (joinBytes (byteAt d (2 * w + 1)) (byteAt d (2 * w))).getLsbD j =
      (byteAt d ((16 * w + j) / 8)).getLsbD ((16 * w + j) % 8) := by
  rw [getLsbD_joinBytes]
  split
  case isTrue hlow =>
    have hbyte : (16 * w + j) / 8 = 2 * w := by omega
    have hbit : (16 * w + j) % 8 = j := by omega
    rw [hbyte, hbit]
  case isFalse hhigh =>
    have hbyte : (16 * w + j) / 8 = 2 * w + 1 := by omega
    have hbit : (16 * w + j) % 8 = j - 8 := by omega
    rw [hbyte, hbit]

/-- The mask of word `w` in a read of `n` coils keeps the bits of the coils below `n` (R198). -/
theorem getLsbD_coilMask (n w : Nat) {j : Nat} (hj : j < 16) :
    (BitVec.ofNat 16 (2 ^ min 16 (n - 16 * w) - 1)).getLsbD j = decide (16 * w + j < n) := by
  rw [BitVec.getLsbD_ofNat, Nat.testBit_two_pow_sub_one, decide_eq_true hj, Bool.true_and, decide_eq_decide]
  omega

/-- R198 bit by bit. -/
theorem getLsbD_coilWord (d : List Byte) (n w : Nat) {j : Nat} (hj : j < 16) :
    (coilWord d n w).getLsbD j =
      if 16 * w + j < n then (byteAt d ((16 * w + j) / 8)).getLsbD ((16 * w + j) % 8) else false := by
  unfold coilWord
  rw [BitVec.getLsbD_and, getLsbD_coilPair d hj, getLsbD_coilMask n w hj]
  split
  case isTrue hread => rw [decide_eq_true hread, Bool.and_true]
  case isFalse hpast => rw [decide_eq_false hpast, Bool.and_false]

section
variable {rq : Request} (d : List Byte) (old : Vector Half 125)

/-- A coil read fills the first `ceil(n/16)` words of `DATA` (R198). -/
theorem writtenBack_getElem_of_coils (hop : rq.op = .rdcoil) (w : Nat) (hw : w < 125) :
    (writtenBack rq d old)[w] =
      if w < ceilDiv rq.arg.toNat 16 then coilWord d rq.arg.toNat w else old[w] := by
  unfold writtenBack
  rw [hop]
  exact Vector.getElem_ofFn hw

/-- A register read fills the first `n` words of `DATA` (R199). -/
theorem writtenBack_getElem_of_registers (hop : rq.op = .rdireg ∨ rq.op = .rdhreg) (i : Nat) (hi : i < 125) :
    (writtenBack rq d old)[i] = if i < rq.arg.toNat then registerValue d i else old[i] := by
  unfold writtenBack
  obtain hop | hop := hop <;> rw [hop] <;> exact Vector.getElem_ofFn hi

/-- The write commands write nothing back (R199). -/
theorem writtenBack_of_write (hop : rq.op = .wrcoil ∨ rq.op = .wrreg ∨ rq.op = .wrregs) :
    writtenBack rq d old = old := by
  unfold writtenBack
  obtain hop | hop | hop := hop <;> rw [hop]

end

/-- A register value is the big-endian pair of its two bytes (R135). -/
theorem registerValue_eq (d : List Byte) (i : Nat) :
    registerValue d i = d.getD (2 * i) 0 ++ d.getD (2 * i + 1) 0 := joinBytes_eq_append _ _

end Sys2Proof.Machine

namespace Sys2Proof.Safety

open Sys2Proof.Machine

/-- Settles O43: a word the read reaches is the masked pair of bytes `coilWord`, bit by bit the coils below `n`. -/
theorem coilWriteBack : Obligations.CoilWriteBack := by
  intro rq d old hop _ _ _ w hw
  have hword := writtenBack_getElem_of_coils d old hop w hw
  refine ⟨fun hreached j hj => ?reached, fun hbeyond => ?beyond⟩
  case reached =>
    rw [hword.trans (if_pos hreached)]
    exact getLsbD_coilWord d rq.arg.toNat w hj
  case beyond => exact hword.trans (if_neg (Nat.not_lt.2 hbeyond))

/-- Settles O44: each word below `n` is the register value at its index, and a write keeps `DATA` whole. -/
theorem registerWriteBack : Obligations.RegisterWriteBack := by
  intro rq d old
  refine ⟨fun hop _ _ i hi => ?registers, writtenBack_of_write d old⟩
  case registers => rw [writtenBack_getElem_of_registers d old hop i hi, registerValue_eq]

end Sys2Proof.Safety
end

section
/-!
PROOF. `CMD` writes that start no exchange (44_hub_lifecycle.md): the write refused while busy (R228), and the bus
command on a closed block (R227).
-/

namespace Sys2Proof.Machine

/-- A busy block refuses every command word before it is decoded (R228). -/
theorem start_of_busy {s : State} (hb : s.busy = true) (v : Word) : start v s = .next { s with rej := true } :=
  if_pos hb

/-- The open check comes after the argument check (R197, R227). -/
theorem busCommand_of_closed {op : BusOp} {s : State} (hv : validArgs op s = true) (ho : s.isOpen = false) :
    busCommand op s = complete .closedError 0 s := by
  obtain ⟨hinvalid, -⟩ | ⟨-, -, hclosed⟩ | ⟨-, hopen, -⟩ := busCommand_cases op s
  · simp [hv] at hinvalid
  · exact hclosed
  · simp [ho] at hopen

end Sys2Proof.Machine

namespace Sys2Proof.Safety

open Sys2Proof.Machine

/-- The six bus commands differ only in the operation handed to `busCommand` (R197). -/
theorem exec_commandOf (op : BusOp) (s : State) : exec (commandOf op) s = .next (busCommand op s) := by
  cases op <;> rfl

/-- A closed block has no exchange in flight (R52 (b)). -/
theorem not_busy_of_closed {s : State} (h : Inv s) (ho : s.isOpen = false) : s.busy = false := by
  by_contra hc
  have hopen := h.busy_open (by simpa using hc)
  simp [ho] at hopen

/-- Settles O15: the arguments pass, the open check fails, and a closed block is idle with the line released, so
`Complete` writes only `done` and `ERR`. -/
theorem closedBlockAnswersClosedError : Obligations.ClosedBlockAnswersClosedError := by
  intro op s hinv hclosed hargs
  have hbusy : s.busy = false := not_busy_of_closed hinv hclosed
  obtain ⟨hphase, hde⟩ := idle_of_not_busy hinv hbusy
  calc exec (commandOf op) s
      = .next (busCommand op s) := exec_commandOf op s
    _ = .next (complete .closedError 0 s) :=
        congrArg _ (busCommand_of_closed ((validArgs_iff op s).2 hargs) hclosed)
    _ = .next { s with errCode := 9, errExc := 0, done := true } :=
        congrArg _ (complete_of_idle hphase hde hbusy .closedError 0)

/-- Settles O6: the write reaches `Start`, which looks at `busy` before it looks at the word. -/
theorem cmdWriteWhileBusyIsRefused : Obligations.CmdWriteWhileBusyIsRefused := by
  intro s w hbusy
  exact (hostWrite_cmd w s).trans (start_of_busy (s := { s with bus := .ack }) hbusy w)

end Sys2Proof.Safety
end

section
/-!
PROOF. Command words and their commands (30_encoding.md section 1): the decoder and the encoder are inverse, and the
tables of R82.
-/

namespace Sys2Proof

/-- The opcode map has each opcode of R82 at most once. -/
theorem opcodeOf_of_opcodeMap : ∀ (op : BitVec 4) (i : Instr), opcodeMap op = some i → op = opcodeOf i := by
  intro op i
  revert op
  cases i <;> decide

/-- What the decoder accepts: a word whose field ZERO is 0 and whose opcode the map of R82 has (R80, R81). -/
theorem decode_eq_ok_iff {w : Word} {i : Instr} :
    decode w = .ok i ↔ w.extractLsb' 4 28 = 0#28 ∧ opcodeMap (w.extractLsb' 0 4) = some i := by
  unfold decode
  by_cases hz : w.extractLsb' 4 28 = 0#28
  · rw [if_neg (not_not_intro hz)]
    cases opcodeMap (w.extractLsb' 0 4) <;> simp [hz]
  · simp [hz]

/-- A word is its field ZERO before its opcode (R80). -/
theorem zeroField_append_opcode (w : Word) : w.extractLsb' 4 28 ++ w.extractLsb' 0 4 = w :=
  (BitVec.extractLsb'_append_extractLsb'_eq_extractLsb' (by decide)).trans BitVec.extractLsb'_eq_self

/-- Each command has exactly one word (R82). -/
theorem eq_encode_of_decode {w : Word} {i : Instr} (h : decode w = .ok i) : w = encode i := by
  obtain ⟨hzero, hop⟩ := decode_eq_ok_iff.1 h
  calc w = w.extractLsb' 4 28 ++ w.extractLsb' 0 4 := (zeroField_append_opcode w).symm
    _ = 0#28 ++ opcodeOf i := by rw [hzero, opcodeOf_of_opcodeMap _ i hop]

/-- Every command is decoded from its word (R82). -/
theorem decode_encode (i : Instr) : decode (encode i) = .ok i := by
  cases i <;> rfl

end Sys2Proof

namespace Sys2Proof.Safety

open Sys2Proof.Machine

/-- Settles O2: the opcode map and `opcodeOf` list the same eight rows, and a word is its two fields. -/
theorem decodeAndEncodeAgree : Obligations.DecodeAndEncodeAgree :=
  ⟨decode_encode, fun _ _ => eq_encode_of_decode⟩

/-- Settles O1: the eight words are the encodings of the commands. -/
theorem commandWordsDecode : Obligations.CommandWordsDecode :=
  ⟨decode_encode .rdcoil, decode_encode .rdireg, decode_encode .rdhreg, decode_encode .wrcoil,
    decode_encode .wrreg, decode_encode .wrregs, decode_encode .openPort, decode_encode .closePort⟩

end Sys2Proof.Safety
end

section
/-!
PROOF. What one event can do, said once (00_scope.md section 6): `Change s e t` lists the ways in which the event `e`
takes a block from `s` to `t`, and every next state of the model is one of them.  The claims about all events are case
analyses of it.
-/

namespace Sys2Proof.Machine

/-- The exchange in flight waits for the event: a tick in the timed phases, the acceptance of a byte in TX (R156, R158,
R162, R167). -/
def Awaits (s : State) : Event → Prop
  | .tick => s.phase = .pre ∨ s.phase = .post ∨ s.phase = .rx
  | .txAccept => s.phase = .tx
  | _ => False

/-- The ways in which an event takes a block from one state to the next (R9). -/
inductive Change (s : State) : Event → State → Prop
  /-- The event does not reach the exchange: it is ignored, refused or only read, or it writes the host's flags and
  operands or the input pin.  The exchange does not wait for it, and it never sets `done`. -/
  | aside (e : Event) (ie done rej : Bool) (slave addr arg : Word) (bus : BusResponse) (portOk : Bool)
      (hdone : done = true → s.done = true) (hunawaited : ¬ Awaits s e) :
      Change s e
        { s with
          ie := ie, done := done, rej := rej, slave := slave, addr := addr, arg := arg, bus := bus, portOk := portOk }
  /-- `DATA[i]` is written (R42). -/
  | dataStored (i : Nat) (hi : i < 125) (v : Word) :
      Change s (.hostWrite (0x200 + 4 * i) 4 v) { s with bus := .ack, data := s.data.set i (v.setWidth 16) }
  /-- A `CFG_*` register of a closed block is written, under its mask (R35). -/
  | configStored (e : Event) (baud line timeout rts delay : Word) (hclosed : s.isOpen = false)
      (hline : line = s.cfgLine ∨ ∃ v, line = v &&& cfgLineMask) (hrts : rts = s.cfgRts ∨ ∃ v, rts = v &&& cfgRtsMask) :
      Change s e
        { s with
          bus := .ack, cfgBaud := baud, cfgLine := line, cfgTimeout := timeout, cfgRts := rts, cfgRtsDelay := delay }
  /-- A command ends in the step of its `CMD` write and reports only its result (R226). -/
  | answered (w : Word) (code : ErrorCode) (hidle : s.busy = false) (hcode : code ≠ .unknownHubError) :
      Change s (.hostWrite 0x008 4 w) (complete code 0 (accept w { s with bus := .ack }))
  /-- OPEN opens the block (R220). -/
  | opened (hidle : s.busy = false) (hclosed : s.isOpen = false) (hlegal : legalConfig s = true)
      (hport : s.portOk = true) :
      Change s (.hostWrite 0x008 4 8) (complete .success 0 (connect (accept 8 { s with bus := .ack })))
  /-- CLOSE closes the block (R223). -/
  | closed (hidle : s.busy = false) :
      Change s (.hostWrite 0x008 4 9) (complete .success 0 (disconnect (accept 9 { s with bus := .ack })))
  /-- A bus command begins its exchange (R197). -/
  | begun (op : BusOp) (w : Word) (hidle : s.busy = false) (hopen : s.isOpen = true) (hargs : validArgs op s = true) :
      Change s (.hostWrite 0x008 4 w)
        (beginExchange (loadRequest (latchedRequest op s) (accept w { s with bus := .ack })))
  /-- The timer of PRE, POST or RX runs on (R156, R162, R167). -/
  | counted (hphase : s.phase = .pre ∨ s.phase = .post ∨ s.phase = .rx) (h0 : s.timer ≠ 0) (h1 : s.timer ≠ 1) :
      Change s .tick { s with timer := s.timer - 1 }
  /-- The pre-delay ends (R156). -/
  | preEnded (hphase : s.phase = .pre) (h1 : s.timer = 1) : Change s .tick (enterTx { s with timer := 0 })
  /-- The post-delay ends (R162). -/
  | postEnded (hphase : s.phase = .post) (h1 : s.timer = 1) : Change s .tick (enterRx { s with timer := 0 })
  /-- The response timeout ends (R167). -/
  | expired (hphase : s.phase = .rx) (h1 : s.timer = 1) : Change s .tick (expire { s with timer := 0 })
  /-- A byte of the frame is handed over, not the last one (R158). -/
  | byteSent (hphase : s.phase = .tx) (hi : s.txIdx.toNat < 256) (hmore : s.txIdx + 1 ≠ s.txLen) :
      Change s .txAccept (emit (.tx s.txbuf[s.txIdx.toNat]) { s with txIdx := s.txIdx + 1 })
  /-- The last byte of the frame is handed over (R158). -/
  | lastByteSent (hphase : s.phase = .tx) (hi : s.txIdx.toNat < 256) (hlast : s.txIdx + 1 = s.txLen) :
      Change s .txAccept (frameSent (emit (.tx s.txbuf[s.txIdx.toNat]) { s with txIdx := s.txIdx + 1 }))
  /-- A byte of the response is collected, not the last one (R170, R171). -/
  | byteCollected (b : Byte) (hphase : s.phase = .rx) (hi : s.rxCnt.toNat < 256)
      (hmore : (collect b s hi).rxCnt ≠ (collect b s hi).expLen) : Change s (.rxByte b) (collect b s hi)
  /-- The last byte of the response is collected (R172). -/
  | responseEnded (b : Byte) (hphase : s.phase = .rx) (hi : s.rxCnt.toNat < 256)
      (hlast : (collect b s hi).rxCnt = (collect b s hi).expLen) : Change s (.rxByte b) (finish (collect b s hi))
  /-- The exchange is abandoned (R174). -/
  | abandoned (hbusy : s.busy = true) : Change s .ioFault (complete .ioError 0 s)
  /-- The block is reset (R280). -/
  | reset : Change s .reset (resetBlock s)

namespace Change

variable {s t : State}

/-- An event that leaves the block as it is. -/
theorem ignored {e : Event} (h : ¬ Awaits s e) : Change s e s :=
  .aside e s.ie s.done s.rej s.slave s.addr s.arg s.bus s.portOk id h

/-- The ways of a `Tick` in a timed phase (R156, R162, R167). -/
theorem of_countDown {reached : State → State} (hphase : s.phase = .pre ∨ s.phase = .post ∨ s.phase = .rx)
    (hreached : s.timer = 1 → Change s .tick (reached { s with timer := 0 }))
    (h : countDown reached s = .next t) : Change s .tick t := by
  obtain ⟨-, hs⟩ | ⟨h1, hs⟩ | ⟨h0, h1, hs⟩ := countDown_cases reached s <;> rw [hs] at h <;> cases h
  · exact hreached h1
  · exact .counted hphase h0 h1

theorem of_tick (h : tick s = .next t) : Change s .tick t := by
  cases hphase : s.phase <;> simp only [tick, hphase] at h
  case idle | tx => cases h; exact ignored (by simp [Awaits, hphase])
  case pre => exact of_countDown (.inl hphase) (.preEnded hphase) h
  case post => exact of_countDown (.inr (.inl hphase)) (.postEnded hphase) h
  case rx => exact of_countDown (.inr (.inr hphase)) (.expired hphase) h

theorem of_txAccept (h : txAccept s = .next t) : Change s .txAccept t := by
  obtain ⟨hother, hs⟩ | ⟨-, -, hs⟩ | ⟨hphase, hi, hlast, hs⟩ | ⟨hphase, hi, hmore, hs⟩ := txAccept_cases s <;>
    rw [hs] at h <;> cases h
  · exact ignored hother
  · exact .lastByteSent hphase hi hlast
  · exact .byteSent hphase hi hmore

theorem of_rxByte {b : Byte} (h : rxByte b s = .next t) : Change s (.rxByte b) t := by
  obtain ⟨-, hs⟩ | ⟨-, -, hs⟩ | ⟨hphase, hi, hlast, hs⟩ | ⟨hphase, hi, hmore, hs⟩ := rxByte_cases b s <;>
    rw [hs] at h <;> cases h
  · exact ignored id
  · exact .responseEnded b hphase hi hlast
  · exact .byteCollected b hphase hi hmore

/-- The ways of `IoFault` (R174). -/
theorem of_ioFault (s : State) : Change s .ioFault (ioFault s) := by
  unfold ioFault
  split
  case isTrue hbusy => exact .abandoned hbusy
  case isFalse => exact ignored id

/-- The ways of an accepted bus command (R197). -/
theorem of_busCommand (op : BusOp) (w : Word) (hidle : s.busy = false) :
    Change s (.hostWrite 0x008 4 w) (busCommand op (accept w { s with bus := .ack })) := by
  obtain ⟨-, hs⟩ | ⟨-, -, hs⟩ | ⟨hargs, hopen, hs⟩ := busCommand_cases op (accept w { s with bus := .ack }) <;> rw [hs]
  · exact .answered w .invalidArgument hidle (by decide)
  · exact .answered w .closedError hidle (by decide)
  · exact .begun op w hidle hopen hargs

/-- The ways of an accepted OPEN (R220). -/
theorem of_execOpen (hidle : s.busy = false) (h : execOpen (accept 8 { s with bus := .ack }) = .next t) :
    Change s (.hostWrite 0x008 4 8) t := by
  obtain ⟨-, hs⟩ | ⟨-, -, hs⟩ | ⟨-, -, -, hs⟩ | ⟨hclosed, hlegal, hport, hs⟩ :=
    execOpen_cases (accept 8 { s with bus := .ack }) <;> rw [hs] at h <;> cases h
  · exact .answered 8 .success hidle (by decide)
  · exact .answered 8 .configError hidle (by decide)
  · exact .answered 8 .ioError hidle (by decide)
  · exact .opened hidle hclosed hlegal hport

/-- The ways of an accepted command (R226). -/
theorem of_exec {i : Instr} (hidle : s.busy = false) (h : exec i (accept (encode i) { s with bus := .ack }) = .next t) :
    Change s (.hostWrite 0x008 4 (encode i)) t := by
  cases i
  case openPort => exact of_execOpen hidle h
  case closePort => cases h; exact .closed hidle
  all_goals cases h; exact of_busCommand _ _ hidle

/-- The ways of a `CMD` write (R226, R228). -/
theorem of_start {w : Word} (h : start w { s with bus := .ack } = .next t) : Change s (.hostWrite 0x008 4 w) t := by
  obtain ⟨-, hs⟩ | ⟨hidle, -, hs⟩ | ⟨hidle, i, hdecode, hs⟩ := start_cases w { s with bus := .ack } <;> rw [hs] at h
  · cases h
    exact .aside _ s.ie s.done true s.slave s.addr s.arg .ack s.portOk id id
  · cases h
    exact .answered w .invalidArgument hidle (by decide)
  · obtain rfl := eq_encode_of_decode hdecode
    exact of_exec hidle h

/-- The ways of a write of a `CFG_*` register: a closed block stores it, an open one sets `rej` (R35). -/
theorem of_configWrite {off : Nat} {v : Word} {store : State}
    (hstore : s.isOpen = false → Change s (.hostWrite off 4 v) store) :
    Change s (.hostWrite off 4 v) (configWrite store { s with bus := .ack }) := by
  unfold configWrite
  split
  case isTrue => exact .aside _ s.ie s.done true s.slave s.addr s.arg .ack s.portOk id id
  case isFalse hclosed => exact hstore (by simpa using hclosed)

end Change

/-- The only offset of `CMD` (R21). -/
theorem offset_of_cmd {off : Nat} (haligned : off % 4 = 0) (h : regAt off = .cmd) : off = 0x008 := by
  unfold regAt at h
  split at h
  · unfold controlAt at h
    split at h <;> cases h
    omega
  · unfold bufferAt at h
    split_ifs at h

/-- The only offset of `DATA[i]` (R21). -/
theorem offset_of_data {off : Nat} {i : Fin 125} (haligned : off % 4 = 0) (h : regAt off = .data i) :
    off = 0x200 + 4 * i := by
  unfold regAt at h
  split at h
  · unfold controlAt at h
    split at h <;> cases h
  · unfold bufferAt at h
    split_ifs at h
    cases h
    dsimp only
    omega

namespace Change

variable {s t : State}

/-- The ways of a write of the register at an offset (R64). -/
theorem of_writeReg {off : Nat} {v : Word} (haligned : off % 4 = 0)
    (h : writeReg (regAt off) v { s with bus := .ack } = .next t) : Change s (.hostWrite off 4 v) t := by
  cases hreg : regAt off <;> rw [hreg] at h
  case cmd =>
    rw [offset_of_cmd haligned hreg]
    exact of_start h
  case data i =>
    cases h
    rw [offset_of_data haligned hreg]
    exact .dataStored i.val i.isLt v
  case ctrl => cases h; exact .aside _ _ s.done s.rej s.slave s.addr s.arg .ack s.portOk id id
  case status =>
    cases h
    exact .aside _ s.ie (s.done && !v.getLsbD 2) (s.rej && !v.getLsbD 3) s.slave s.addr s.arg .ack s.portOk
      (by simp +contextual) id
  case slave => cases h; exact .aside _ s.ie s.done s.rej v s.addr s.arg .ack s.portOk id id
  case addr => cases h; exact .aside _ s.ie s.done s.rej s.slave v s.arg .ack s.portOk id id
  case arg => cases h; exact .aside _ s.ie s.done s.rej s.slave s.addr v .ack s.portOk id id
  case cfgBaud =>
    cases h
    exact of_configWrite fun hc =>
      .configStored _ v s.cfgLine s.cfgTimeout s.cfgRts s.cfgRtsDelay hc (.inl rfl) (.inl rfl)
  case cfgLine =>
    cases h
    exact of_configWrite fun hc =>
      .configStored _ s.cfgBaud _ s.cfgTimeout s.cfgRts s.cfgRtsDelay hc (.inr ⟨v, rfl⟩) (.inl rfl)
  case cfgTimeout =>
    cases h
    exact of_configWrite fun hc =>
      .configStored _ s.cfgBaud s.cfgLine v s.cfgRts s.cfgRtsDelay hc (.inl rfl) (.inl rfl)
  case cfgRts =>
    cases h
    exact of_configWrite fun hc =>
      .configStored _ s.cfgBaud s.cfgLine s.cfgTimeout _ s.cfgRtsDelay hc (.inl rfl) (.inr ⟨v, rfl⟩)
  case cfgRtsDelay =>
    cases h
    exact of_configWrite fun hc =>
      .configStored _ s.cfgBaud s.cfgLine s.cfgTimeout s.cfgRts v hc (.inl rfl) (.inl rfl)
  all_goals cases h; exact .aside _ s.ie s.done s.rej s.slave s.addr s.arg .ack s.portOk id id

/-- The ways of a host write (R62, R64). -/
theorem of_hostWrite {off size : Nat} {v : Word} (h : hostWrite off size v s = .next t) :
    Change s (.hostWrite off size v) t := by
  obtain ⟨hlegal, hs⟩ | ⟨-, hs⟩ := hostWrite_cases off size v s <;> rw [hs] at h
  · obtain ⟨rfl, haligned, -⟩ := (accessLegal_iff off size).1 hlegal
    exact of_writeReg haligned h
  · cases h
    exact .aside _ s.ie s.done s.rej s.slave s.addr s.arg .busError s.portOk id id

/-- A read writes only the bus's answer (R63). -/
theorem of_hostRead (off size : Nat) (s : State) : Change s (.hostRead off size) (hostRead off size s) := by
  unfold hostRead
  split <;> exact .aside _ s.ie s.done s.rej s.slave s.addr s.arg _ s.portOk id id

/-- Every next state of the model is one of the ways of `Change`. -/
theorem of_applyEvent {e : Event} (h : applyEvent e s = .next t) : Change s e t := by
  cases e
  case reset => cases h; exact .reset
  case ioFault => cases h; exact of_ioFault s
  case rxByte b => exact of_rxByte h
  case txAccept => exact of_txAccept h
  case tick => exact of_tick h
  case hostWrite off size v => exact of_hostWrite h
  case hostRead off size => cases h; exact of_hostRead off size s
  case portOk level => cases h; exact .aside _ s.ie s.done s.rej s.slave s.addr s.arg s.bus level id id

/-- A step applies one event to the state with it removed, or leaves the state as it is (R9). -/
theorem of_step (h : step s = .next t) : t = s ∨ ∃ e rest, Change { s with inputs := rest } e t := by
  cases hi : s.inputs with
  | nil => rw [step_nil s hi] at h; cases h; exact .inl rfl
  | cons e rest => rw [step_cons s e rest hi] at h; exact .inr ⟨e, rest, of_applyEvent h⟩

end Change

end Sys2Proof.Machine
end

section
/-!
PROOF. The invariant (10_state.md section 8), in the parts that the shared operations keep: what holds in every phase,
what holds of an exchange in flight, and what each phase adds to them.
-/

namespace Sys2Proof.Safety

open Sys2Proof.Machine

/-- The part of the invariant that holds whatever the phase is: the driven pin and the legal configuration of an open
block, and the ranges of the counters, of ERR and of the `CFG_*` registers. -/
structure InRange (s : State) : Prop where
  de_drv_iff : s.deDrv = true ↔ s.isOpen = true ∧ rtsEnabled s = true
  open_legal : s.isOpen = true → legalConfig s = true
  counters : s.txIdx.toNat ≤ s.txLen.toNat ∧ s.txLen.toNat ≤ 255 ∧ s.rxCnt.toNat ≤ s.expLen.toNat ∧
    s.expLen.toNat ≤ 255
  exc_only_exception : s.errExc ≠ 0 → s.errCode = 8
  code_range : s.errCode.toNat ≤ 9
  line_masked : s.cfgLine &&& cfgLineMask = s.cfgLine
  rts_masked : s.cfgRts &&& cfgRtsMask = s.cfgRts

/-- The part of the invariant that holds of an exchange in flight whatever its phase is: the block is open, the command
is not completed, and `TXBUF` holds the frame of the latched request. -/
structure InFlight (s : State) : Prop where
  busy : s.busy = true
  isOpen : s.isOpen = true
  not_done : s.done = false
  slave_valid : s.rq.slave.toNat ≤ 247
  arg_valid : argInRange s.rq.op s.rq.arg.toNat = true
  frame_in_buffer : ∃ data : Vector Half 125, sentFrame s = requestFrame s.rq data
  frame_length : s.txLen.toNat = txLenOf s.rq.op s.rq.arg.toNat

/-- A timer value that is not 0 leaves a tick to wait for (R47). -/
theorem one_le_toNat {w : Word} (h : w ≠ 0) : 1 ≤ w.toNat := by
  bv_omega

variable {s : State}

theorem Inv.inRange (h : Inv s) : InRange s :=
  { h with }

theorem Inv.inFlight (h : Inv s) (hbusy : s.busy = true) : InFlight s := by
  obtain ⟨hslave, harg⟩ := h.request_valid hbusy
  refine ⟨hbusy, h.busy_open hbusy, ?_, hslave, harg, h.frame_in_buffer hbusy, h.frame_length hbusy⟩
  cases hdone : s.done
  · rfl
  · simp [h.done_not_busy hdone] at hbusy

/-- An exchange is in flight in every phase but IDLE (R52 (a)). -/
theorem Inv.inFlight_of_phase_ne (h : Inv s) (hphase : s.phase ≠ .idle) : InFlight s :=
  h.inFlight (h.busy_iff_phase.2 hphase)

/-- `exp_len` is in the range of R139 as long as it is the normal response length. -/
theorem InFlight.expLen_bounds (hf : InFlight s) (hexp : s.expLen.toNat = expLenOf s.rq.op s.rq.arg.toNat) :
    6 ≤ s.expLen.toNat ∧ s.expLen.toNat ≤ 255 := by
  rw [hexp]
  exact expLenOf_bounds _ _ hf.arg_valid

theorem InFlight.txLen_bounds (hf : InFlight s) : 8 ≤ s.txLen.toNat ∧ s.txLen.toNat ≤ 255 := by
  rw [hf.frame_length]
  exact txLenOf_bounds _ _ hf.arg_valid

/-- The invariant in IDLE. -/
theorem inv_of_idle (hr : InRange s) (hphase : s.phase = .idle) (hbusy : s.busy = false) (hde : s.de = false) :
    Inv s :=
  { hr with
    busy_iff_phase := by simp [hphase, hbusy]
    busy_open := by simp [hbusy]
    de_in_window := by simp [hde]
    delay_running := by simp [hphase]
    receiving := by simp [hphase]
    transmitting := by simp [hphase]
    done_not_busy := fun _ => hbusy
    window_asserted := by simp [hphase]
    request_valid := by simp [hbusy]
    frame_in_buffer := by simp [hbusy]
    frame_length := by simp [hbusy]
    expected_length := by simp [hphase]
    expected_length_rx := by simp [hphase] }

/-- The invariant in PRE, TX and POST: the line is asserted exactly if RTS is enabled. -/
theorem inv_of_sending (hr : InRange s) (hf : InFlight s) (hphase : sending s.phase) (hde : s.de = rtsEnabled s)
    (hexp : s.expLen.toNat = expLenOf s.rq.op s.rq.arg.toNat)
    (hdelay : s.phase ≠ .tx → 1 ≤ s.timer.toNat ∧ rtsEnabled s = true)
    (htx : s.phase = .tx → s.txIdx.toNat < s.txLen.toNat) : Inv s :=
  { hr with
    busy_iff_phase := by rcases hphase with h | h | h <;> simp [h, hf.busy]
    busy_open := fun _ => hf.isOpen
    de_in_window := fun h => ⟨hphase, hde ▸ h⟩
    delay_running := fun h => hdelay (by rcases h with h | h <;> simp [h])
    receiving := by rcases hphase with h | h | h <;> simp [h]
    transmitting := fun h => ⟨htx h, hf.txLen_bounds⟩
    done_not_busy := by simp [hf.not_done]
    window_asserted := fun _ h => hde.trans h
    request_valid := fun _ => ⟨hf.slave_valid, hf.arg_valid⟩
    frame_in_buffer := fun _ => hf.frame_in_buffer
    frame_length := fun _ => hf.frame_length
    expected_length := fun _ => hexp
    expected_length_rx := by rcases hphase with h | h | h <;> simp [h] }

/-- The invariant in RX: the line is released, and the response is not complete. -/
theorem inv_of_rx (hr : InRange s) (hf : InFlight s) (hphase : s.phase = .rx) (hde : s.de = false)
    (htimer : 1 ≤ s.timer.toNat) (hcount : s.rxCnt.toNat < s.expLen.toNat)
    (hexp : s.expLen.toNat = expLenOf s.rq.op s.rq.arg.toNat ∨
      (s.expLen.toNat = 5 ∧ 2 ≤ s.rxCnt.toNat ∧ s.rxbuf[1].getLsbD 7 = true)) : Inv s :=
  { hr with
    busy_iff_phase := by simp [hphase, hf.busy]
    busy_open := fun _ => hf.isOpen
    de_in_window := by simp [hde]
    delay_running := by simp [hphase]
    receiving := by
      refine fun _ => ⟨htimer, hcount, ?_⟩
      rcases hexp with h | ⟨h, -⟩
      · have := hf.expLen_bounds h
        omega
      · omega
    transmitting := by simp [hphase]
    done_not_busy := by simp [hf.not_done]
    window_asserted := by simp [hphase]
    request_valid := fun _ => ⟨hf.slave_valid, hf.arg_valid⟩
    frame_in_buffer := fun _ => hf.frame_in_buffer
    frame_length := fun _ => hf.frame_length
    expected_length := by simp [hphase]
    expected_length_rx := fun _ => hexp }

/-- In the transmit window the line is asserted exactly if RTS is enabled (R52 (c), R152). -/
theorem Inv.de_eq_of_sending (h : Inv s) (hphase : sending s.phase) : s.de = rtsEnabled s := by
  cases hr : rtsEnabled s
  · by_contra hde
    have := (h.de_in_window (by simpa using hde)).2
    simp [hr] at this
  · exact h.window_asserted hphase hr

/-- In RX the line is released (R52 (c)). -/
theorem Inv.de_of_rx (h : Inv s) (hphase : s.phase = .rx) : s.de = false := by
  by_contra hde
  have := (h.de_in_window (by simpa using hde)).1
  simp [sending, hphase] at this

/-- The codes of R243 that the block produces are numbered 0 to 9 (R249). -/
theorem errorNumber_le (code : ErrorCode) : code ≠ .unknownHubError → (errorNumber code).toNat ≤ 9 := by
  cases code <;> decide

/-- `Complete` in any block whose values are in range leads to a block that meets the invariant (R250). -/
theorem inv_complete (hr : InRange s) {code : ErrorCode} {exc : Byte} (hcode : code ≠ .unknownHubError)
    (hexc : exc ≠ 0 → code = .exceptionError) : Inv (complete code exc s) := by
  rw [complete_eq]
  refine inv_of_idle { hr with exc_only_exception := fun h => ?_, code_range := errorNumber_le code hcode } rfl rfl rfl
  rw [hexc h]
  rfl

/-- `Complete` without an exception code. -/
theorem inv_complete_zero (hr : InRange s) {code : ErrorCode} (hcode : code ≠ .unknownHubError) :
    Inv (complete code 0 s) := inv_complete hr hcode (absurd rfl)

/-- `EnterRx` of an exchange whose response has not begun leads to a block that meets the invariant (R166, R169). -/
theorem inv_enterRx (hr : InRange s) (hf : InFlight s) (hexp : s.expLen.toNat = expLenOf s.rq.op s.rq.arg.toNat) :
    Inv (enterRx s) := by
  obtain ⟨htx, htxLen, -, hexpLen⟩ := hr.counters
  have hwaiting : InRange (waitingRx s) :=
    { hr with counters := ⟨htx, htxLen, Nat.zero_le _, hexpLen⟩ }
  rw [enterRx_eq]
  split
  case isTrue => exact inv_complete_zero hwaiting (by decide)
  case isFalse htimeout =>
    have hbounds := hf.expLen_bounds hexp
    exact inv_of_rx hwaiting { hf with } rfl rfl (one_le_toNat htimeout) (show 0 < s.expLen.toNat by omega) (.inl hexp)

/-- The end of the transmission leads to a block that meets the invariant (R158). -/
theorem inv_frameSent (hr : InRange s) (hf : InFlight s) (hde : s.de = rtsEnabled s)
    (hexp : s.expLen.toNat = expLenOf s.rq.op s.rq.arg.toNat) : Inv (frameSent s) := by
  unfold frameSent
  split
  case isTrue hdelay =>
    obtain ⟨hrts, hne⟩ := hdelay
    exact inv_of_sending (s := enterDelay .post s) { hr with } { hf with } (.inr (.inr rfl)) hde hexp (fun _ => ⟨one_le_toNat hne, hrts⟩) (by simp)
  case isFalse => exact inv_enterRx hr hf hexp

end Sys2Proof.Safety
end

section
/-!
PROOF. Every step keeps the invariant (10_state.md section 8), and no state that meets it stops (00_scope.md section 6).
-/

namespace Sys2Proof.Machine

/-- A 9-bit counter below 256 does not wrap (R48). -/
theorem toNat_succ {c : Count} (h : c.toNat < 256) : (c + 1).toNat = c.toNat + 1 := by
  bv_omega

/-- Legal arguments fit the 16 bits of `rq.arg` (R196, R197). -/
theorem arg_lt_of_inRange {op : BusOp} {arg : Nat} (h : argInRange op arg = true) : arg < 2 ^ 16 := by
  rw [argInRange_iff] at h
  cases op <;> simp only at h <;> omega

end Sys2Proof.Machine

namespace Sys2Proof.Safety

open Sys2Proof.Machine

variable {s : State} {op : BusOp}

/-- The latched argument of a legal command is the value of `ARG` (R197). -/
theorem latchedRequest_arg_toNat (hargs : validArgs op s = true) : (latchedRequest op s).arg.toNat = s.arg.toNat := by
  simp only [validArgs, Bool.and_eq_true] at hargs
  exact (BitVec.toNat_setWidth 16 s.arg).trans (Nat.mod_eq_of_lt (arg_lt_of_inRange hargs.2))

/-- The latched slave of a legal command is the value of `SLAVE` (R197). -/
theorem latchedRequest_slave_toNat (hargs : validArgs op s = true) :
    (latchedRequest op s).slave.toNat = s.slave.toNat := by
  simp only [validArgs, Bool.and_eq_true, decide_eq_true_eq] at hargs
  exact (BitVec.toNat_setWidth 8 s.slave).trans (Nat.mod_eq_of_lt (by omega))

/-- The latched argument of a legal command is in range (R196, R197). -/
theorem latchedRequest_arg_inRange (hargs : validArgs op s = true) :
    argInRange (latchedRequest op s).op (latchedRequest op s).arg.toNat = true := by
  rw [latchedRequest_arg_toNat hargs]
  simp only [validArgs, Bool.and_eq_true] at hargs
  exact hargs.2

/-- `tx_len` of a loaded request is the length of its frame (R94, R197). -/
theorem loadRequest_txLen_toNat {rq : Request} (harg : argInRange rq.op rq.arg.toNat = true) (s : State) :
    (loadRequest rq s).txLen.toNat = txLenOf rq.op rq.arg.toNat := by
  have hlen := txLenOf_bounds rq.op rq.arg.toNat harg
  rw [loadRequest_txLen, requestFrame_length rq s.data harg, BitVec.toNat_ofNat]
  omega

/-- `exp_len` of a loaded request is its normal response length (R95, R197). -/
theorem loadRequest_expLen_toNat {rq : Request} (harg : argInRange rq.op rq.arg.toNat = true) (s : State) :
    (loadRequest rq s).expLen.toNat = expLenOf rq.op rq.arg.toNat := by
  have hlen := expLenOf_bounds rq.op rq.arg.toNat harg
  rw [loadRequest_expLen, BitVec.toNat_ofNat]
  omega

/-- `TXBUF` of a loaded request holds its frame (R197). -/
theorem sentFrame_loadRequest {rq : Request} (harg : argInRange rq.op rq.arg.toNat = true) (s : State) :
    sentFrame (loadRequest rq s) = requestFrame rq s.data := by
  have hlen := txLenOf_bounds rq.op rq.arg.toNat harg
  have hframe := requestFrame_length rq s.data harg
  rw [sentFrame, loadRequest_txLen_toNat harg, loadRequest_txbuf, ← hframe]
  exact storeFrame_take _ _ (by omega)

/-- A loaded request leaves the configuration and ERR alone, so with the counters at 0 its values are in range
(R197). -/
theorem InRange.loadRequest (hr : InRange s) {rq : Request} (harg : argInRange rq.op rq.arg.toNat = true) :
    InRange { loadRequest rq s with txIdx := 0, rxCnt := 0 } := by
  have htxLen := loadRequest_txLen_toNat harg s
  have hexpLen := loadRequest_expLen_toNat harg s
  have htxBounds := txLenOf_bounds _ _ harg
  have hexpBounds := expLenOf_bounds _ _ harg
  refine ⟨?pin, ?legal, ⟨Nat.zero_le _, ?tx, Nat.zero_le _, ?exp⟩, ?exc, ?code, ?line, ?rts⟩
  case pin => simpa [rtsEnabled, rtsMode] using hr.de_drv_iff
  case legal => simpa [legalConfig, baudSupported, lineParity, rtsMode] using hr.open_legal
  case tx => dsimp only; omega
  case exp => dsimp only; omega
  case exc => simpa using hr.exc_only_exception
  case code => simpa using hr.code_range
  case line => simpa using hr.line_masked
  case rts => simpa using hr.rts_masked

/-- A legal request loaded into an open block is in flight as soon as `busy` is set (R197). -/
theorem inFlight_loadRequest {rq : Request} (harg : argInRange rq.op rq.arg.toNat = true)
    (hslave : rq.slave.toNat ≤ 247) (hopen : s.isOpen = true) (hdone : s.done = false) :
    InFlight { loadRequest rq s with busy := true } where
  busy := rfl
  isOpen := by simpa using hopen
  not_done := by simpa using hdone
  slave_valid := by simpa using hslave
  arg_valid := by simpa using harg
  frame_in_buffer := ⟨s.data, by
    simp only [sentFrame, loadRequest_rq]
    exact sentFrame_loadRequest harg s⟩
  frame_length := by simpa using loadRequest_txLen_toNat harg s

/-- `BeginExchange` of a loaded request leads to a block that meets the invariant (R152). -/
theorem inv_beginExchange (hr : InRange { s with txIdx := 0, rxCnt := 0 }) (hf : InFlight { s with busy := true })
    (hde : s.de = false) (hexp : s.expLen.toNat = expLenOf s.rq.op s.rq.arg.toNat) : Inv (beginExchange s) := by
  have htxLen : 8 ≤ s.txLen.toNat ∧ s.txLen.toNat ≤ 255 := hf.txLen_bounds
  rw [beginExchange_eq]
  refine inv_of_sending
    { hr with } { hf with }
    ?phase ?de hexp ?delay ?tx
  case phase =>
    dsimp only
    split <;> simp [sending]
  case de =>
    dsimp only
    rw [hde, Bool.false_or]
    rfl
  case delay =>
    dsimp only
    split
    case isTrue hdelay => exact fun _ => ⟨one_le_toNat hdelay.2, hdelay.1⟩
    case isFalse => exact absurd rfl
  case tx => exact fun _ => show 0 < s.txLen.toNat by omega

/-- A bus command that passes its checks in an idle block leads to a block that meets the invariant (R197). -/
theorem inv_begun (hr : InRange s) (hopen : s.isOpen = true) (hdone : s.done = false) (hde : s.de = false)
    (hargs : validArgs op s = true) : Inv (beginExchange (loadRequest (latchedRequest op s) s)) := by
  have harg := latchedRequest_arg_inRange hargs
  have hslave : (latchedRequest op s).slave.toNat ≤ 247 := by
    rw [latchedRequest_slave_toNat hargs]
    exact ((validArgs_iff op s).1 hargs).1
  exact inv_beginExchange (hr.loadRequest harg) (inFlight_loadRequest harg hslave hopen hdone)
    ((loadRequest_de s _).trans hde) (by simpa using loadRequest_expLen_toNat harg s)

/-- The bytes collected are at most the bytes expected (R170, R171). -/
theorem collect_rxCnt_le (h : Inv s) (hphase : s.phase = .rx) (b : Byte) (hi : s.rxCnt.toNat < 256) :
    (collect b s hi).rxCnt.toNat ≤ (collect b s hi).expLen.toNat ∧ (collect b s hi).expLen.toNat ≤ 255 := by
  obtain ⟨-, hcount, -, hbound⟩ := h.receiving hphase
  simp only [collect_eq_of_byte, toNat_succ hi]
  split
  case isTrue hrevised => simp [hrevised.1]
  case isFalse => omega

/-- The length expected after a byte is that of the response, or 5 once the second byte has bit 7 set (R171). -/
theorem collect_expLen (h : Inv s) (hphase : s.phase = .rx) (b : Byte) (hi : s.rxCnt.toNat < 256) :
    (collect b s hi).expLen.toNat = expLenOf s.rq.op s.rq.arg.toNat ∨
      ((collect b s hi).expLen.toNat = 5 ∧ 2 ≤ (collect b s hi).rxCnt.toNat ∧
        (collect b s hi).rxbuf[1].getLsbD 7 = true) := by
  by_cases hrevised : s.rxCnt = 1 ∧ b.getLsbD 7 = true
  · exact .inr (by simp [collect_eq_of_byte, hrevised])
  · obtain hnormal | ⟨h5, hcount, hbit⟩ := h.expected_length_rx hphase
    · refine .inl ?_
      simpa only [collect_eq_of_byte, if_neg hrevised] using hnormal
    · have hother : s.rxCnt.toNat ≠ 1 := by omega
      refine .inr ⟨?_, ?_, ?_⟩ <;> simp only [collect_eq_of_byte, if_neg hrevised, toNat_succ hi]
      · exact h5
      · omega
      · rwa [Vector.getElem_set_ne _ _ hother]

/-- A collected byte keeps the values in range (R170, R171). -/
theorem InRange.collect (h : Inv s) (hphase : s.phase = .rx) (b : Byte) (hi : s.rxCnt.toNat < 256) :
    InRange (collect b s hi) := by
  have hcounters := collect_rxCnt_le h hphase b hi
  obtain ⟨htx, htxLen, -⟩ := h.counters
  rw [collect_eq_of_byte] at hcounters ⊢
  exact { h.inRange with counters := ⟨htx, htxLen, hcounters⟩ }

/-- A byte that does not complete the response leaves a block that meets the invariant (R170, R171). -/
theorem inv_collect (h : Inv s) (hphase : s.phase = .rx) (b : Byte) (hi : s.rxCnt.toNat < 256)
    (hmore : (collect b s hi).rxCnt ≠ (collect b s hi).expLen) : Inv (collect b s hi) := by
  have hr := InRange.collect h hphase b hi
  have hf := h.inFlight_of_phase_ne (by simp [hphase])
  have hexp := collect_expLen h hphase b hi
  have hle := (collect_rxCnt_le h hphase b hi).1
  have hlt : (collect b s hi).rxCnt.toNat < (collect b s hi).expLen.toNat := by
    have := BitVec.toNat_ne.1 hmore
    omega
  rw [collect_eq_of_byte] at hr hexp hlt ⊢
  exact inv_of_rx hr { hf with } hphase (h.de_of_rx hphase) (h.receiving hphase).1 hlt hexp

/-- `Finish` in any block whose values are in range leads to a block that meets the invariant (R172). -/
theorem inv_finish (hr : InRange s) : Inv (finish s) := by
  have hback : ∀ d, InRange (writeBack d s) := fun d => { hr with }
  obtain hd | hd | ⟨-, hd⟩ | ⟨d, hd⟩ := decodeResponse_cases s.rq (sentFrame s) (receivedFrame s)
  · rw [finish_of_err hd]; exact inv_complete_zero hr (by decide)
  · rw [finish_of_err hd]; exact inv_complete_zero hr (by decide)
  · rw [finish_of_err hd]; exact inv_complete hr (by decide) fun _ => rfl
  · rw [finish_of_ok hd]; exact inv_complete_zero (hback d) (by decide)

/-- A successful OPEN drives the pin exactly if RTS is enabled (R220). -/
theorem InRange.connect (hr : InRange s) (hclosed : s.isOpen = false) (hlegal : legalConfig s = true) :
    InRange (connect s) := by
  have hpin : s.deDrv = false := by simpa [hclosed] using hr.de_drv_iff
  rw [connect_eq, hpin]
  exact { hr with de_drv_iff := by simp [rtsEnabled, rtsMode], open_legal := fun _ => hlegal }

/-- CLOSE drives no pin (R223). -/
theorem InRange.disconnect (hr : InRange s) : InRange (disconnect s) := by
  rw [disconnect_eq]
  exact { hr with de_drv_iff := by simp, open_legal := by simp }

/-- Accepting a command clears ERR and changes no other value with a range (R226). -/
theorem InRange.accept (hr : InRange s) (w : Word) (bus : BusResponse) : InRange (accept w { s with bus := bus }) :=
  { hr with exc_only_exception := absurd rfl, code_range := Nat.zero_le _ }

/-- Stored `CFG_*` values keep their masks (R36, R39). -/
theorem masked_of_stored {mask old v : Word} (hold : old &&& mask = old) (h : v = old ∨ ∃ x, v = x &&& mask) :
    v &&& mask = v := by
  obtain rfl | ⟨x, rfl⟩ := h
  · exact hold
  · rw [BitVec.and_assoc, BitVec.and_self]

/-- Settles O45: the reset values of R53 are in range, and the block is idle with the line released. -/
theorem invariantAtReset : Obligations.InvariantAtReset := by
  have hr : InRange State.reset := by constructor <;> decide
  exact inv_of_idle hr rfl rfl rfl

/-- `Reset` leads to a block that meets the invariant: it has the reset values wherever the invariant looks (R280). -/
theorem inv_resetBlock (s : State) : Inv (resetBlock s) := by
  have hline : (0x03 : Word) &&& cfgLineMask = 0x03 := by decide
  have hrts : (0 : Word) &&& cfgRtsMask = 0 := by decide
  exact inv_of_idle ⟨by simp [resetBlock, State.reset], by simp [resetBlock, State.reset],
    by simp [resetBlock, State.reset], absurd rfl, Nat.zero_le _, hline, hrts⟩ rfl rfl rfl

/-! ### The sequencer -/

theorem InRange.withTimer (hr : InRange s) (v : Word) : InRange { s with timer := v } :=
  { hr with }

theorem InFlight.withTimer (hf : InFlight s) (v : Word) : InFlight { s with timer := v } :=
  { hf with }

/-- A timer that does not reach 0 keeps the invariant (R52 (e), (f)). -/
theorem inv_counted (h : Inv s) (h1 : s.timer ≠ 1) : Inv { s with timer := s.timer - 1 } := by
  have htimer : 1 ≤ (s.timer - 1).toNat := one_le_toNat fun hlast => h1 (by bv_omega)
  exact { h with
    delay_running := fun hp => ⟨htimer, (h.delay_running hp).2⟩
    receiving := fun hp => ⟨htimer, (h.receiving hp).2⟩ }

/-- The end of the pre-delay leads to a block that meets the invariant (R156, R157). -/
theorem inv_preEnded (h : Inv s) (hphase : s.phase = .pre) (v : Word) : Inv (enterTx { s with timer := v }) := by
  have hr := h.inRange
  have hf := h.inFlight_of_phase_ne (by simp [hphase])
  have htxLen := hf.txLen_bounds
  obtain ⟨-, hcounters⟩ := hr.counters
  exact inv_of_sending (s := enterTx { s with timer := v })
    { hr with counters := ⟨Nat.zero_le _, hcounters⟩ } { hf with } (.inr (.inl rfl)) (h.de_eq_of_sending (.inl hphase)) (h.expected_length (.inl hphase)) (absurd rfl)
    fun _ => show 0 < s.txLen.toNat by omega

/-- `Expire` in any block whose values are in range leads to a block that meets the invariant (R169). -/
theorem inv_expire (hr : InRange s) : Inv (expire s) := by
  rw [expire_eq]
  split <;> exact inv_complete_zero hr (by decide)

section
variable (h : Inv s) (hphase : s.phase = .tx) (b : Byte)
include h hphase

/-- Handing over a byte keeps the counters in range (R158). -/
theorem InRange.byteSent : InRange (emit (.tx b) { s with txIdx := s.txIdx + 1 }) := by
  obtain ⟨hlt, -, hle⟩ := h.transmitting hphase
  have hr := h.inRange
  obtain ⟨-, hcounters⟩ := hr.counters
  have htx : (s.txIdx + 1).toNat ≤ s.txLen.toNat := by rw [toNat_succ (by omega)]; omega
  exact { hr with counters := ⟨htx, hcounters⟩ }

/-- Handing over a byte leaves the exchange in flight (R158). -/
theorem InFlight.byteSent : InFlight (emit (.tx b) { s with txIdx := s.txIdx + 1 }) := by
  have hf := h.inFlight_of_phase_ne (by simp [hphase])
  exact { hf with }

/-- A byte that is not the last one leaves a block that meets the invariant (R158). -/
theorem inv_byteSent (hmore : s.txIdx + 1 ≠ s.txLen) : Inv (emit (.tx b) { s with txIdx := s.txIdx + 1 }) := by
  have hr := InRange.byteSent h hphase b
  refine inv_of_sending hr (InFlight.byteSent h hphase b) (.inr (.inl hphase))
    (h.de_eq_of_sending (.inr (.inl hphase))) (h.expected_length (.inr (.inl hphase))) (absurd hphase) fun _ => ?_
  exact Nat.lt_of_le_of_ne hr.counters.1 (BitVec.toNat_ne.1 hmore)

/-- The last byte leaves a block that meets the invariant (R158). -/
theorem inv_lastByteSent : Inv (frameSent (emit (.tx b) { s with txIdx := s.txIdx + 1 })) :=
  inv_frameSent (InRange.byteSent h hphase b) (InFlight.byteSent h hphase b)
    (h.de_eq_of_sending (.inr (.inl hphase))) (h.expected_length (.inr (.inl hphase)))

end

/-- Every change of a block that meets the invariant leads to one that meets it. -/
theorem inv_of_change {t : State} {e : Event} (h : Inv s) (hc : Change s e t) : Inv t := by
  have hr := h.inRange
  cases hc
  case aside ie done rej slave addr arg bus portOk hdone _ =>
    exact { h with done_not_busy := fun hd => h.done_not_busy (hdone hd) }
  case dataStored => exact { h with }
  case configStored baud line timeout rts delay hclosed hline hrts =>
    have hbusy := not_busy_of_closed h hclosed
    obtain ⟨hphase, hde⟩ := idle_of_not_busy h hbusy
    have hpin : s.deDrv = false := by simpa [hclosed] using h.de_drv_iff
    exact inv_of_idle
      { hr with
        de_drv_iff := by simp [hpin, hclosed]
        open_legal := by simp [hclosed]
        line_masked := masked_of_stored hr.line_masked hline
        rts_masked := masked_of_stored hr.rts_masked hrts }
      hphase hbusy hde
  case answered w code hidle hcode => exact inv_complete_zero (hr.accept w .ack) hcode
  case opened hidle hclosed hlegal hport =>
    exact inv_complete_zero ((hr.accept 8 .ack).connect hclosed hlegal) (by decide)
  case closed hidle => exact inv_complete_zero (hr.accept 9 .ack).disconnect (by decide)
  case begun op w hidle hopen hargs =>
    exact inv_begun (hr.accept w .ack) hopen rfl (idle_of_not_busy h hidle).2 hargs
  case counted hphase h0 h1 => exact inv_counted h h1
  case preEnded hphase h1 => exact inv_preEnded h hphase 0
  case postEnded hphase h1 =>
    exact inv_enterRx (hr.withTimer 0) ((h.inFlight_of_phase_ne (by simp [hphase])).withTimer 0)
      (h.expected_length (.inr (.inr hphase)))
  case expired hphase h1 => exact inv_expire (hr.withTimer 0)
  case byteSent hphase hi hmore => exact inv_byteSent h hphase _ hmore
  case lastByteSent hphase hi hlast => exact inv_lastByteSent h hphase _
  case byteCollected b hphase hi hmore => exact inv_collect h hphase b hi hmore
  case responseEnded b hphase hi hlast => exact inv_finish (InRange.collect h hphase b hi)
  case abandoned hbusy => exact inv_complete_zero hr (by decide)
  case reset => exact inv_resetBlock s

/-- The pending events are no part of what the invariant says. -/
theorem Inv.withInputs (h : Inv s) (es : List Event) : Inv { s with inputs := es } :=
  { h with }

/-- Settles O46: a step is one `Change`, and each of them keeps the invariant. -/
theorem stepKeepsInvariant : Obligations.StepKeepsInvariant := by
  intro s t h hstep
  obtain rfl | ⟨e, rest, hc⟩ := Change.of_step hstep
  · exact h
  · exact inv_of_change (h.withInputs rest) hc

end Sys2Proof.Safety
end

section
/-!
PROOF. Steps and runs (00_scope.md section 6): no state that meets the invariant stops, so no run from reset does.
-/

namespace Sys2Proof.Machine

/-- Every command answers a next state, in every state (R226). -/
theorem exec_next (i : Instr) (s : State) : ∃ t, exec i s = .next t := by
  cases i
  case openPort =>
    obtain ⟨-, h⟩ | ⟨-, -, h⟩ | ⟨-, -, -, h⟩ | ⟨-, -, -, h⟩ := execOpen_cases s
    all_goals exact ⟨_, h⟩
  all_goals exact ⟨_, rfl⟩

/-- Every `CMD` write answers a next state, in every state (R226, R228). -/
theorem start_next (v : Word) (s : State) : ∃ t, start v s = .next t := by
  obtain ⟨-, h⟩ | ⟨-, -, h⟩ | ⟨-, i, -, h⟩ := start_cases v s
  · exact ⟨_, h⟩
  · exact ⟨_, h⟩
  · rw [h]
    exact exec_next i _

/-- Every host write answers a next state, in every state (R62, R64). -/
theorem hostWrite_next (off size : Nat) (v : Word) (s : State) : ∃ t, hostWrite off size v s = .next t := by
  obtain ⟨-, h⟩ | ⟨-, h⟩ := hostWrite_cases off size v s <;> rw [h]
  · cases regAt off
    case cmd => exact start_next v _
    all_goals exact ⟨_, rfl⟩
  · exact ⟨_, rfl⟩

/-- A running timer never stops the model (R47). -/
theorem countDown_next {s : State} (h : 1 ≤ s.timer.toNat) (reached : State → State) :
    ∃ t, countDown reached s = .next t := ⟨_, countDown_of_running h reached⟩

/-- One step, then the rest of the run. -/
theorem run_succ {s t : State} (h : step s = .next t) (k : Nat) : core.run (k + 1) s = core.run k t := by
  have hcore : core.step s = .next t := h
  simp only [Host.Core.run, hcore]

/-- A run of no steps. -/
theorem run_zero (s : State) : core.run 0 s = .next s := rfl

end Sys2Proof.Machine

namespace Sys2Proof.Safety

open Sys2Proof.Machine

variable {s : State}

/-- `Tick` answers a next state: R52 (e) and (f) have the timer running in the timed phases. -/
theorem tick_next (h : Inv s) : ∃ t, tick s = .next t := by
  unfold tick
  cases hphase : s.phase
  case idle | tx => exact ⟨s, rfl⟩
  case pre => exact countDown_next (h.delay_running (.inl hphase)).1 enterTx
  case post => exact countDown_next (h.delay_running (.inr hphase)).1 enterRx
  case rx => exact countDown_next (h.receiving hphase).1 expire

/-- `TxAccept` answers a next state: R52 (g) keeps `tx_idx` inside the buffer. -/
theorem txAccept_next (h : Inv s) : ∃ t, txAccept s = .next t := by
  obtain ⟨-, ht⟩ | ⟨hphase, hout, -⟩ | ⟨-, _, -, ht⟩ | ⟨-, _, -, ht⟩ := txAccept_cases s
  case inr.inl =>
    obtain ⟨hlt, -, hle⟩ := h.transmitting hphase
    omega
  all_goals exact ⟨_, ht⟩

/-- `RxByte` answers a next state: R52 (f) keeps `rx_cnt` inside the buffer. -/
theorem rxByte_next (h : Inv s) (b : Byte) : ∃ t, rxByte b s = .next t := by
  obtain ⟨-, ht⟩ | ⟨hphase, hout, -⟩ | ⟨-, _, -, ht⟩ | ⟨-, _, -, ht⟩ := rxByte_cases b s
  case inr.inl =>
    obtain ⟨-, hlt, -, hle⟩ := h.receiving hphase
    omega
  all_goals exact ⟨_, ht⟩

/-- Every event answers a next state of a block that meets the invariant. -/
theorem applyEvent_next (h : Inv s) (e : Event) : ∃ t, applyEvent e s = .next t := by
  cases e
  case rxByte b => exact rxByte_next h b
  case txAccept => exact txAccept_next h
  case tick => exact tick_next h
  case hostWrite off size v => exact hostWrite_next off size v s
  all_goals exact ⟨_, rfl⟩

/-- Settles O47: a step applies one event, and the invariant keeps the timer and the counters inside their ranges. -/
theorem invariantStatesNeverStop : Obligations.InvariantStatesNeverStop := by
  intro s h
  cases hinputs : s.inputs with
  | nil => exact ⟨s, step_nil s hinputs⟩
  | cons e rest =>
    rw [step_cons s e rest hinputs]
    exact applyEvent_next (h.withInputs rest) e

/-- The induction over runs: what starts in a block that meets the invariant goes on and ends in one. -/
theorem run_keeps_inv (h : Inv s) (n : Nat) : ∃ t, core.run n s = .next t ∧ Inv t := by
  induction n generalizing s with
  | zero => exact ⟨s, run_zero s, h⟩
  | succ n ih =>
    obtain ⟨u, hstep⟩ := invariantStatesNeverStop s h
    obtain ⟨t, hrun, ht⟩ := ih (stepKeepsInvariant s u h hstep)
    exact ⟨t, (run_succ hstep n).trans hrun, ht⟩

/-- Settles O48: the invariant holds after reset whatever events are pending, and runs keep it. -/
theorem everyRunFromResetIsSafe : Obligations.EveryRunFromResetIsSafe :=
  fun es n => run_keeps_inv (invariantAtReset.withInputs es) n

/-- Settles O4: the two cases of the pending events. -/
theorem stepAppliesOldestEvent : Obligations.StepAppliesOldestEvent :=
  ⟨fun s e rest => step_cons (withEvents s (e :: rest)) e rest rfl, fun s => step_nil (withEvents s []) rfl⟩

/-- A `CMD` write of a command's word to a block that is not busy runs the command on the accepted state (R226). -/
theorem start_of_decode_ok {v : Word} {i : Instr} (hb : s.busy = false) (hd : decode v = .ok i) :
    start v s = exec i (accept v s) := by
  obtain ⟨hbusy, -⟩ | ⟨-, ⟨e, he⟩, -⟩ | ⟨-, j, hj, hs⟩ := start_cases v s
  · simp [hb] at hbusy
  · simp [hd] at he
  · rw [hs]
    congr 1
    simpa using hj.symm.trans hd

/-- Settles O5: the oldest event is the `CMD` write, which `Start` answers by the decoded command. -/
theorem stepRunsDecodedCommand : Obligations.StepRunsDecodedCommand := by
  intro s w i rest hbusy hdecode
  calc step (withEvents s (.hostWrite 0x008 4 w :: rest))
      = hostWrite 0x008 4 w (withEvents s rest) := stepAppliesOldestEvent.1 s _ rest
    _ = start w { withEvents s rest with bus := .ack } := hostWrite_cmd w _
    _ = exec i (accept w { withEvents s rest with bus := .ack }) := start_of_decode_ok hbusy hdecode

end Sys2Proof.Safety
end

section
/-!
PROOF. The order of the output actions within an exchange (42_serial_transport.md section 7): every step keeps the
trace ending with exactly the actions of the exchange in flight.
-/

namespace Sys2Proof.Safety

open Sys2Proof.Machine

variable {s : State}

/-- An idle block has no action of an exchange in flight. -/
theorem traceInOrder_of_idle (hphase : s.phase = .idle) : TraceInOrder s :=
  ⟨s.trace, by simp [exchangeActions, hphase]⟩

/-- `Complete` ends the exchange (R250). -/
theorem traceInOrder_complete (code : ErrorCode) (exc : Byte) (s : State) : TraceInOrder (complete code exc s) :=
  traceInOrder_of_idle rfl

/-- `Finish` ends the exchange (R172). -/
theorem traceInOrder_finish (s : State) : TraceInOrder (finish s) := by
  obtain ⟨code, exc, -, h⟩ | ⟨d, -, h⟩ := finish_cases s <;> rw [h]
  · exact traceInOrder_complete code exc s
  · exact traceInOrder_complete .success 0 _

/-- The action by which an exchange asserts its line, if RTS is enabled (R176). -/
def assertion (s : State) : List Action := if rtsEnabled s then [.pin (assertedLevel s)] else []

/-- The action by which an exchange releases its line, if RTS is enabled (R176). -/
def release (s : State) : List Action := if rtsEnabled s then [.pin (releasedLevel s)] else []

/-- In PRE only the line has been asserted. -/
theorem traceInOrder_iff_pre (h : s.phase = .pre) : TraceInOrder s ↔ ∃ before, s.trace = before ++ assertion s := by
  simp only [TraceInOrder, exchangeActions, h, assertion]

/-- In TX the first `tx_idx` bytes follow. -/
theorem traceInOrder_iff_tx (h : s.phase = .tx) :
    TraceInOrder s ↔ ∃ before, s.trace = before ++ (assertion s ++ txActions s s.txIdx.toNat) := by
  simp only [TraceInOrder, exchangeActions, h, assertion]

/-- In POST the whole frame follows. -/
theorem traceInOrder_iff_post (h : s.phase = .post) :
    TraceInOrder s ↔ ∃ before, s.trace = before ++ (assertion s ++ txActions s s.txLen.toNat) := by
  simp only [TraceInOrder, exchangeActions, h, assertion]

/-- In RX the line has been released again. -/
theorem traceInOrder_iff_rx (h : s.phase = .rx) :
    TraceInOrder s ↔ ∃ before, s.trace = before ++ (assertion s ++ txActions s s.txLen.toNat ++ release s) := by
  simp only [TraceInOrder, exchangeActions, h, assertion, release]

/-- One byte more of the frame. -/
theorem txActions_succ (s : State) {n : Nat} (h : n < 256) :
    txActions s (n + 1) = txActions s n ++ [.tx s.txbuf[n]] := by
  have hbuf : n < s.txbuf.toList.length := by simpa using h
  simp only [txActions, ← List.take_concat_get' _ _ hbuf, List.map_append, Vector.getElem_toList, List.map_cons,
    List.map_nil]

/-- `EnterRx` releases an asserted line, so that a trace that ends with the whole transmission stays in order
(R166, R176). -/
theorem traceInOrder_enterRx (hde : s.de = rtsEnabled s) (hpin : rtsEnabled s = true → s.deDrv = true)
    (htrace : ∃ before, s.trace = before ++ (assertion s ++ txActions s s.txLen.toNat)) :
    TraceInOrder (enterRx s) := by
  rw [enterRx_eq]
  split
  case isTrue => exact traceInOrder_complete _ _ _
  case isFalse =>
    obtain ⟨before, hbefore⟩ := htrace
    have hrelease : releaseActions s = release s := by
      rw [releaseActions_of_driven fun h => ⟨hpin (hde ▸ h), hde ▸ h⟩, hde, release]
    refine (traceInOrder_iff_rx rfl).2 ⟨before, ?_⟩
    calc s.trace ++ releaseActions s
        = before ++ (assertion s ++ txActions s s.txLen.toNat ++ release s) := by
          rw [hbefore, hrelease, List.append_assoc]

/-- The end of the transmission keeps the trace in order (R158). -/
theorem traceInOrder_frameSent (hde : s.de = rtsEnabled s) (hpin : rtsEnabled s = true → s.deDrv = true)
    (htrace : ∃ before, s.trace = before ++ (assertion s ++ txActions s s.txLen.toNat)) :
    TraceInOrder (frameSent s) := by
  unfold frameSent
  split
  case isTrue => exact (traceInOrder_iff_post rfl).2 htrace
  case isFalse => exact traceInOrder_enterRx hde hpin htrace

/-- Asserting the line of an idle block is exactly the first action of R176. -/
theorem assertActions_of_released (hde : s.de = false) (hpin : rtsEnabled s = true → s.deDrv = true) :
    assertActions s = assertion s := by
  unfold assertActions assertion
  cases hr : rtsEnabled s
  · simp
  · simp [hde, dePin_asserted (hpin hr) hr]

/-- `BeginExchange` of an idle block emits exactly the assertion of the line (R152, R176). -/
theorem traceInOrder_beginExchange (hde : s.de = false) (hpin : rtsEnabled s = true → s.deDrv = true) :
    TraceInOrder (beginExchange s) := by
  have hassert := assertActions_of_released hde hpin
  have htrace : (beginExchange s).trace = s.trace ++ assertion s := by rw [beginExchange_eq, ← hassert]
  have hsame : assertion (beginExchange s) = assertion s := by rw [beginExchange_eq]; rfl
  by_cases hdelay : rtsEnabled s = true ∧ s.cfgRtsDelay ≠ 0
  · have hphase : (beginExchange s).phase = .pre := by rw [beginExchange_eq]; exact if_pos hdelay
    exact (traceInOrder_iff_pre hphase).2 ⟨s.trace, by rw [htrace, hsame]⟩
  · have hphase : (beginExchange s).phase = .tx := by rw [beginExchange_eq]; exact if_neg hdelay
    have hnone : txActions (beginExchange s) (beginExchange s).txIdx.toNat = [] := by rw [beginExchange_eq]; rfl
    exact (traceInOrder_iff_tx hphase).2 ⟨s.trace, by rw [htrace, hsame, hnone, List.append_nil]⟩

/-- An open block with RTS enabled drives the pin (R52 (d)). -/
theorem Inv.driven (h : Inv s) (hopen : s.isOpen = true) (hrts : rtsEnabled s = true) : s.deDrv = true :=
  h.de_drv_iff.2 ⟨hopen, hrts⟩

/-- Handing over a byte appends it to the actions of the exchange (R158, R176). -/
theorem trace_byteSent (htrace : TraceInOrder s) (hphase : s.phase = .tx) (hi : s.txIdx.toNat < 256) :
    ∃ before, (emit (.tx s.txbuf[s.txIdx.toNat]) { s with txIdx := s.txIdx + 1 }).trace =
      before ++ (assertion s ++ txActions s (s.txIdx + 1).toNat) := by
  obtain ⟨before, hbefore⟩ := (traceInOrder_iff_tx hphase).1 htrace
  refine ⟨before, ?_⟩
  rw [emit_trace, toNat_succ hi, txActions_succ s hi]
  simp [hbefore]

/-- Every change of a block that meets the invariant keeps the trace in order. -/
theorem traceInOrder_of_change {t : State} {e : Event} (h : Inv s) (htrace : TraceInOrder s) (hc : Change s e t) :
    TraceInOrder t := by
  cases hc
  case aside => exact htrace
  case dataStored => exact htrace
  case configStored hclosed _ _ =>
    exact traceInOrder_of_idle (idle_of_not_busy h (not_busy_of_closed h hclosed)).1
  case answered => exact traceInOrder_complete _ _ _
  case opened => exact traceInOrder_complete _ _ _
  case closed => exact traceInOrder_complete _ _ _
  case begun op w hidle hopen hargs =>
    refine traceInOrder_beginExchange (by simpa using (idle_of_not_busy h hidle).2) fun hrts => ?_
    simpa using h.driven hopen (by simpa [rtsEnabled, rtsMode] using hrts)
  case counted => exact htrace
  case preEnded hphase _ =>
    obtain ⟨before, hbefore⟩ := (traceInOrder_iff_pre hphase).1 htrace
    refine (traceInOrder_iff_tx rfl).2 ⟨before, hbefore.trans ?_⟩
    exact congrArg _ (List.append_nil _).symm
  case postEnded hphase _ =>
    have hopen := h.busy_open (h.busy_iff_phase.2 (by simp [hphase]))
    exact traceInOrder_enterRx (h.de_eq_of_sending (.inr (.inr hphase))) (h.driven hopen)
      ((traceInOrder_iff_post hphase).1 htrace)
  case expired =>
    rw [expire_eq]
    exact traceInOrder_complete _ _ _
  case byteSent hphase hi _ =>
    refine (traceInOrder_iff_tx ?_).2 (trace_byteSent htrace hphase hi)
    exact hphase
  case lastByteSent hphase hi hlast =>
    have hopen := h.busy_open (h.busy_iff_phase.2 (by simp [hphase]))
    have hwhole := trace_byteSent htrace hphase hi
    rw [hlast] at hwhole
    exact traceInOrder_frameSent (h.de_eq_of_sending (.inr (.inl hphase))) (h.driven hopen) hwhole
  case byteCollected b hphase hi _ =>
    rw [collect_eq]
    refine (traceInOrder_iff_rx ?_).2 ((traceInOrder_iff_rx hphase).1 htrace)
    exact hphase
  case responseEnded => exact traceInOrder_finish _
  case abandoned => exact traceInOrder_complete _ _ _
  case reset => exact traceInOrder_of_idle rfl

/-- Settles O49: a step is one `Change`, and the pending events are no part of the order. -/
theorem stepKeepsTraceInOrder : Obligations.StepKeepsTraceInOrder := by
  intro s t h htrace hstep
  obtain rfl | ⟨e, rest, hc⟩ := Change.of_step hstep
  · exact htrace
  · exact traceInOrder_of_change (h.withInputs rest) htrace hc

end Sys2Proof.Safety
end

section
/-!
PROOF. What a step may emit (42_serial_transport.md section 7): bytes only in TX, pin actions only with RTS enabled.
-/

namespace Sys2Proof.Machine

variable {s : State}

/-- A released line needs no action to release it (R151). -/
theorem releaseActions_of_released (h : s.de = false) : releaseActions s = [] := by
  simp [releaseActions, h]

theorem complete_trace (code : ErrorCode) (exc : Byte) (s : State) :
    (complete code exc s).trace = s.trace ++ releaseActions s := by rw [complete_eq]

theorem expire_trace (s : State) : (expire s).trace = s.trace ++ releaseActions s := by
  rw [expire_eq, complete_trace]

theorem finish_trace (s : State) : (finish s).trace = s.trace ++ releaseActions s := by
  obtain ⟨code, exc, -, h⟩ | ⟨d, -, h⟩ := finish_cases s <;> rw [h]
  · exact complete_trace code exc s
  · exact complete_trace .success 0 (writeBack d s)

/-- `EnterRx` releases the line once, also when it ends the exchange at once (R166). -/
theorem enterRx_trace (s : State) : (enterRx s).trace = s.trace ++ releaseActions s := by
  rw [enterRx_eq]
  split
  · rw [complete_trace, releaseActions_of_released (s := waitingRx s) rfl, List.append_nil]
    rfl
  · rfl

/-- The end of the transmission releases the line if no delay is waited for (R158). -/
theorem frameSent_trace (s : State) :
    (frameSent s).trace = s.trace ++
      if rtsEnabled s = true ∧ s.cfgRtsDelay ≠ 0 then [] else releaseActions s := by
  unfold frameSent
  split
  · simp
  · exact enterRx_trace s

end Sys2Proof.Machine

namespace Sys2Proof.Safety

open Sys2Proof.Machine

/-- The actions that R176 and R177 allow a block in `s`: bytes in TX, pin actions with RTS enabled. -/
def Allowed (s : State) : Action → Prop
  | .tx _ => s.phase = .tx
  | .pin _ => rtsEnabled s = true

/-- `t` has the trace of `s` with only allowed actions appended. -/
def Emits (s t : State) : Prop := ∃ acts, t.trace = s.trace ++ acts ∧ ∀ a ∈ acts, Allowed s a

variable {s t : State}

theorem emits_nothing (h : t.trace = s.trace) : Emits s t := ⟨[], by simp [h], by simp⟩

/-- Only an asserted line is released, and it is asserted only with RTS enabled (R52 (c)). -/
theorem allowed_releaseActions (h : Inv s) : ∀ a ∈ releaseActions s, Allowed s a := by
  unfold releaseActions
  split
  case isTrue hde => exact List.forall_mem_singleton.2 (h.de_in_window hde).2
  case isFalse => simp

/-- An idle block that completes a command at once emits nothing (R250). -/
theorem complete_trace_of_released (h : s.de = false) (code : ErrorCode) (exc : Byte) :
    (complete code exc s).trace = s.trace := by
  rw [complete_trace, releaseActions_of_released h, List.append_nil]

/-- The byte handed over and, where there is no delay to wait, the release of the line are allowed (R158). -/
theorem emits_lastByteSent (h : Inv s) (hphase : s.phase = .tx) (b : Byte) :
    Emits s (frameSent (emit (.tx b) { s with txIdx := s.txIdx + 1 })) := by
  refine ⟨.tx b :: if rtsEnabled s = true ∧ s.cfgRtsDelay ≠ 0 then [] else releaseActions s, ?trace, ?allowed⟩
  case trace =>
    rw [frameSent_trace, emit_trace, List.append_assoc, List.singleton_append]
    rfl
  case allowed =>
    refine List.forall_mem_cons.2 ⟨hphase, ?_⟩
    split
    · simp
    · exact allowed_releaseActions h

/-- The actions by which an open block drives its pin are allowed (R220). -/
theorem emits_opened (hde : s.de = false) (w : Word) :
    Emits s (complete .success 0 (connect (accept w { s with bus := .ack }))) := by
  have hreleased : (connect (accept w { s with bus := .ack })).de = false := by simp [connect_eq, hde]
  refine ⟨_, (complete_trace_of_released hreleased _ _).trans (congrArg State.trace (connect_eq _)), ?_⟩
  split
  case isTrue hrts => exact List.forall_mem_singleton.2 hrts
  case isFalse => simp

/-- A closing block lets go only a pin that it drives, with RTS enabled (R52 (d), R223). -/
theorem emits_closed (h : Inv s) (hde : s.de = false) (w : Word) :
    Emits s (complete .success 0 (disconnect (accept w { s with bus := .ack }))) := by
  have hreleased : (disconnect (accept w { s with bus := .ack })).de = false := by simp [disconnect_eq, hde]
  refine ⟨_, (complete_trace_of_released hreleased _ _).trans (congrArg State.trace (disconnect_eq _)), ?_⟩
  split
  case isTrue hpin => exact List.forall_mem_singleton.2 (h.de_drv_iff.1 hpin).2
  case isFalse => simp

/-- A beginning exchange asserts the line only with RTS enabled (R152). -/
theorem emits_begun (rq : Request) (w : Word) :
    Emits s (beginExchange (loadRequest rq (accept w { s with bus := .ack }))) := by
  refine ⟨assertActions (loadRequest rq (accept w { s with bus := .ack })), ?trace, ?allowed⟩
  case trace => simp [beginExchange_eq]
  case allowed =>
    unfold assertActions
    split
    case isTrue hrts => simpa [Allowed, rtsEnabled, rtsMode] using hrts.1
    case isFalse => simp

/-- Every change of a block that meets the invariant emits only what is allowed. -/
theorem emits_of_change {e : Event} (h : Inv s) (hc : Change s e t) : Emits s t := by
  cases hc
  case aside | dataStored | configStored | counted | preEnded => exact emits_nothing rfl
  case answered w code hidle _ =>
    have hde := (idle_of_not_busy h hidle).2
    exact emits_nothing (complete_trace_of_released (s := accept w { s with bus := .ack }) hde code 0)
  case opened hidle _ _ _ => exact emits_opened (idle_of_not_busy h hidle).2 8
  case closed hidle => exact emits_closed h (idle_of_not_busy h hidle).2 9
  case begun op w _ _ _ => exact emits_begun _ w
  case postEnded => exact ⟨releaseActions s, enterRx_trace _, allowed_releaseActions h⟩
  case expired => exact ⟨releaseActions s, expire_trace _, allowed_releaseActions h⟩
  case byteSent hphase _ _ => exact ⟨_, emit_trace _ _, List.forall_mem_singleton.2 hphase⟩
  case lastByteSent hphase _ _ => exact emits_lastByteSent h hphase _
  case byteCollected => exact emits_nothing (by rw [collect_eq])
  case responseEnded b _ hi _ =>
    refine ⟨_, (finish_trace _).trans ?_, allowed_releaseActions h⟩
    rw [collect_eq]
    rfl
  case abandoned => exact ⟨_, complete_trace _ _ _, allowed_releaseActions h⟩
  case reset =>
    refine ⟨if s.deDrv then [.pin .z] else [], ?trace, ?allowed⟩
    case trace => unfold resetBlock; split <;> simp
    case allowed =>
      split
      case isTrue hpin => exact List.forall_mem_singleton.2 (h.de_drv_iff.1 hpin).2
      case isFalse => simp

/-- Every step of a block that meets the invariant emits only what is allowed. -/
theorem emits_of_step (h : Inv s) (hstep : step s = .next t) : Emits s t := by
  obtain rfl | ⟨e, rest, hc⟩ := Change.of_step hstep
  · exact emits_nothing rfl
  · have hemits := emits_of_change (h.withInputs rest) hc
    exact hemits

/-- Settles O50: a byte is allowed only in TX, where the invariant has the line asserted with RTS enabled, and the pin
of an open block driven. -/
theorem bytesLeaveOnlyInTheWindow : Obligations.BytesLeaveOnlyInTheWindow := by
  intro s t h hstep
  obtain ⟨acts, htrace, hallowed⟩ := emits_of_step h hstep
  refine ⟨acts, htrace, fun b hb => ?_⟩
  have hphase : s.phase = .tx := hallowed _ hb
  refine ⟨hphase, fun hrts => ?_⟩
  have hde : s.de = true := h.window_asserted (.inr (.inl hphase)) hrts
  have hopen : s.isOpen = true := h.busy_open (h.busy_iff_phase.2 (by simp [hphase]))
  have hself : { s with de := true } = s := by rw [← hde]
  exact ⟨hde, hself ▸ dePin_asserted (h.driven hopen hrts) hrts⟩

/-- Settles O51: MODE 0 is RTS disabled, so the pin is not driven and no pin action is allowed. -/
theorem disabledRtsNeverTouchesThePin : Obligations.DisabledRtsNeverTouchesThePin := by
  intro s t h hmode hstep
  have hrts : rtsEnabled s = false := by simp [rtsEnabled, rtsMode, hmode]
  have hpin : s.deDrv = false := by simpa [hrts] using h.de_drv_iff
  obtain ⟨acts, htrace, hallowed⟩ := emits_of_step h hstep
  refine ⟨dePin_of_not_driven hpin, acts, htrace, fun l hl => ?_⟩
  have hforbidden : rtsEnabled s = true := hallowed _ hl
  simp [hrts] at hforbidden

end Sys2Proof.Safety
end

section
/-!
PROOF. What an exchange in flight is protected from (44_hub_lifecycle.md sections 3 and 4), when the configuration may
change (10_state.md section 3), and when `DATA` may (43_rtu_master.md section 3).
-/

namespace Sys2Proof.Safety

open Sys2Proof.Machine

/-- The five `CFG_*` registers of `t` are those of `s`. -/
def SameConfig (s t : State) : Prop :=
  t.cfgBaud = s.cfgBaud ∧ t.cfgLine = s.cfgLine ∧ t.cfgTimeout = s.cfgTimeout ∧ t.cfgRts = s.cfgRts ∧
    t.cfgRtsDelay = s.cfgRtsDelay

/-- From `s` to `t` an exchange is not disturbed: its request, its frame, `open` and the configuration are kept, and
where it has ended it has been completed. -/
def Undisturbed (s t : State) : Prop :=
  t.rq = s.rq ∧ t.txbuf = s.txbuf ∧ t.txLen = s.txLen ∧ t.isOpen = s.isOpen ∧ SameConfig s t ∧
    (s.busy = true → t.busy = false → t.done = true)

variable {s t : State}

/-- Only the fields that the exchange reads matter. -/
theorem undisturbed_of_busy_eq (hrq : t.rq = s.rq) (htxbuf : t.txbuf = s.txbuf) (htxLen : t.txLen = s.txLen)
    (hopen : t.isOpen = s.isOpen) (hconfig : SameConfig s t) (hbusy : t.busy = s.busy) : Undisturbed s t :=
  ⟨hrq, htxbuf, htxLen, hopen, hconfig, fun hs ht => by simp [hbusy, hs] at ht⟩

theorem undisturbed_complete (code : ErrorCode) (exc : Byte) (s : State) : Undisturbed s (complete code exc s) := by
  rw [complete_eq]
  exact ⟨rfl, rfl, rfl, rfl, ⟨rfl, rfl, rfl, rfl, rfl⟩, fun _ _ => rfl⟩

theorem undisturbed_expire (s : State) : Undisturbed s (expire s) := by
  rw [expire_eq]
  exact undisturbed_complete _ _ s

theorem undisturbed_finish (s : State) : Undisturbed s (finish s) := by
  obtain ⟨code, exc, -, h⟩ | ⟨d, -, h⟩ := finish_cases s <;> rw [h]
  · exact undisturbed_complete code exc s
  · exact undisturbed_complete .success 0 (writeBack d s)

theorem undisturbed_enterRx (s : State) : Undisturbed s (enterRx s) := by
  rw [enterRx_eq]
  split
  · exact undisturbed_complete _ _ (waitingRx s)
  · exact undisturbed_of_busy_eq rfl rfl rfl rfl ⟨rfl, rfl, rfl, rfl, rfl⟩ rfl

theorem undisturbed_frameSent (s : State) : Undisturbed s (frameSent s) := by
  unfold frameSent
  split
  · exact undisturbed_of_busy_eq rfl rfl rfl rfl ⟨rfl, rfl, rfl, rfl, rfl⟩ rfl
  · exact undisturbed_enterRx s

/-- The four kinds of change: no exchange is disturbed; an idle open block begins one; OPEN opens an idle block; or the
block ends closed, after `Reset` or because it had no exchange to disturb. -/
theorem disturbance_cases {e : Event} (hc : Change s e t) :
    Undisturbed s t ∨
    (s.busy = false ∧ s.isOpen = true ∧ SameConfig s t) ∨
    (s.busy = false ∧ e = .hostWrite 0x008 4 8 ∧ legalConfig s = true ∧ s.portOk = true ∧ SameConfig s t) ∨
    (t.isOpen = false ∧ (e = .reset ∨ s.busy = false ∨ s.isOpen = false)) := by
  cases hc
  case aside | dataStored | counted | preEnded | byteSent =>
    exact .inl (undisturbed_of_busy_eq rfl rfl rfl rfl ⟨rfl, rfl, rfl, rfl, rfl⟩ rfl)
  case byteCollected =>
    rw [collect_eq]
    exact .inl (undisturbed_of_busy_eq rfl rfl rfl rfl ⟨rfl, rfl, rfl, rfl, rfl⟩ rfl)
  case responseEnded b _ hi _ =>
    have h := undisturbed_finish (collect b s hi)
    exact .inl (by simpa only [Undisturbed, SameConfig, collect_eq] using h)
  case answered w code _ _ => exact .inl (undisturbed_complete _ _ (accept w { s with bus := .ack }))
  case postEnded => exact .inl (undisturbed_enterRx { s with timer := 0 })
  case expired => exact .inl (undisturbed_expire { s with timer := 0 })
  case lastByteSent => exact .inl (undisturbed_frameSent (emit _ { s with txIdx := s.txIdx + 1 }))
  case abandoned => exact .inl (undisturbed_complete _ _ s)
  case begun hidle hopen _ =>
    refine .inr (.inl ⟨hidle, hopen, ?_⟩)
    simp [SameConfig, beginExchange_eq]
  case opened hidle _ hlegal hport =>
    refine .inr (.inr (.inl ⟨hidle, rfl, hlegal, hport, ?_⟩))
    simp [SameConfig, complete_eq, connect_eq]
  case closed hidle => exact .inr (.inr (.inr ⟨by simp [complete_eq, disconnect_eq], .inr (.inl hidle)⟩))
  case configStored hclosed _ _ => exact .inr (.inr (.inr ⟨hclosed, .inr (.inr hclosed)⟩))
  case reset => exact .inr (.inr (.inr ⟨rfl, .inl rfl⟩))

/-- A busy block is undisturbed by every change but `Reset`. -/
theorem undisturbed_of_busy {e : Event} (h : Inv s) (hbusy : s.busy = true) (hc : Change s e t) (he : e ≠ .reset) :
    Undisturbed s t := by
  have hopen := h.busy_open hbusy
  obtain hu | ⟨hidle, -⟩ | ⟨hidle, -⟩ | ⟨-, hreset | hidle | hclosed⟩ := disturbance_cases hc
  · exact hu
  · simp [hbusy] at hidle
  · simp [hbusy] at hidle
  · exact absurd hreset he
  · simp [hbusy] at hidle
  · simp [hopen] at hclosed

/-- Settles O52: of the four kinds of change only the first is open to a busy block. -/
theorem exchangeIsNotDisturbed : Obligations.ExchangeIsNotDisturbed := by
  intro s t e h hbusy hleads he
  obtain ⟨hrq, htxbuf, htxLen, hopen, ⟨hbaud, hline, htimeout, hrts, hdelay⟩, hdone⟩ :=
    undisturbed_of_busy h hbusy (Change.of_applyEvent hleads) he
  exact ⟨hrq, htxbuf, htxLen, hopen.trans (h.busy_open hbusy), hbaud, hline, htimeout, hrts, hdelay, hdone hbusy⟩

/-- `LegalConfig` written out (R222). -/
theorem legalConfig_iff (s : State) :
    legalConfig s = true ↔ s.cfgBaud ≠ 0 ∧ s.cfgBaud ∉ s.baudRefused ∧ s.cfgLine.extractLsb' 2 2 ≠ 3#2 ∧
      s.cfgRts.extractLsb' 0 2 ≠ 3#2 := by
  simp [legalConfig, baudSupported, lineParity, rtsMode, and_assoc]

/-- Settles O54: of the four kinds of change the first three keep the configuration, and only the third leads from a
closed block to an open one. -/
theorem configurationFixedWhileOpen : Obligations.ConfigurationFixedWhileOpen := by
  intro s t e h hleads hopened
  have hconfig : SameConfig s t ∧
      (s.isOpen = false → e = .hostWrite 0x008 4 8 ∧ s.portOk = true ∧ legalConfig s = true) := by
    obtain ⟨-, -, -, hopen, hsame, -⟩ | ⟨-, hopen, hsame⟩ | ⟨-, he, hlegal, hport, hsame⟩ | ⟨hclosed, -⟩ :=
      disturbance_cases (Change.of_applyEvent hleads)
    · exact ⟨hsame, fun hc => by simp [hopen, hc] at hopened⟩
    · exact ⟨hsame, fun hc => by simp [hopen] at hc⟩
    · exact ⟨hsame, fun _ => ⟨he, hport, hlegal⟩⟩
    · simp [hclosed] at hopened
  obtain ⟨⟨hbaud, hline, htimeout, hrts, hdelay⟩, hby⟩ := hconfig
  refine ⟨hbaud, hline, htimeout, hrts, hdelay, fun hclosed => ?_⟩
  obtain ⟨he, hport, hlegal⟩ := hby hclosed
  exact ⟨he, hport, (legalConfig_iff s).1 hlegal⟩

/-! ### `DATA` -/

theorem complete_data (code : ErrorCode) (exc : Byte) (s : State) : (complete code exc s).data = s.data := by
  rw [complete_eq]

theorem enterRx_data (s : State) : (enterRx s).data = s.data := by
  rw [enterRx_eq]
  split
  · exact complete_data _ _ _
  · rfl

theorem frameSent_data (s : State) : (frameSent s).data = s.data := by
  unfold frameSent
  split
  · rfl
  · exact enterRx_data s

/-- `Finish` writes `DATA` only when it reports the success of a read (R172, R199). -/
theorem finish_of_data_ne (h : (finish s).data ≠ s.data) :
    (finish s).done = true ∧ (finish s).errCode = 0 ∧ (s.rq.op = .rdcoil ∨ s.rq.op = .rdireg ∨ s.rq.op = .rdhreg) := by
  obtain ⟨code, exc, -, hf⟩ | ⟨d, -, hf⟩ := finish_cases s <;> rw [hf] at h ⊢
  · exact absurd (complete_data code exc s) h
  · refine ⟨rfl, rfl, ?_⟩
    rw [complete_data, writeBack_data] at h
    cases hop : s.rq.op
    case rdcoil | rdireg | rdhreg => simp
    all_goals exact absurd (writtenBack_of_write d s.data (by simp [hop])) h

/-- Settles O53: apart from `Reset` and a write of `DATA`, only `Finish` writes it. -/
theorem dataIsAllOrNothing : Obligations.DataIsAllOrNothing := by
  intro s t e hleads hne
  cases Change.of_applyEvent hleads
  case reset => exact .inl rfl
  case dataStored i hi v => exact .inr (.inl ⟨i, v, hi, rfl⟩)
  case responseEnded b hphase hi _ =>
    have hfinish := finish_of_data_ne (s := collect b s hi) (by rwa [collect_eq] at hne ⊢)
    rw [collect_eq b s hi] at hfinish ⊢
    exact .inr (.inr ⟨⟨b, rfl⟩, hphase, hfinish⟩)
  case aside | configStored | counted | preEnded | byteSent => exact absurd rfl hne
  case answered | abandoned => exact absurd (complete_data _ _ _) hne
  case expired => rw [expire_eq] at hne; exact absurd (complete_data _ _ _) hne
  case opened => exact absurd (by simp [complete_data, connect_eq]) hne
  case closed => exact absurd (by simp [complete_data, disconnect_eq]) hne
  case begun => exact absurd (by simp [beginExchange_eq]) hne
  case postEnded => exact absurd (enterRx_data _) hne
  case lastByteSent => exact absurd (frameSent_data _) hne
  case byteCollected => exact absurd (by rw [collect_eq]) hne

end Sys2Proof.Safety
end

section
/-!
PROOF. The commands that begin an exchange (43_rtu_master.md sections 1 and 2): the frames of formats Q4 and QM, and
what an accepted bus command leaves.
-/

namespace Sys2Proof.Machine

theorem loByte_eq_extract (w : Half) : loByte w = w.extractLsb' 0 8 := BitVec.setWidth_eq_extractLsb' (by decide)

theorem hiByte_eq_extract (w : Half) : hiByte w = w.extractLsb' 8 8 := by
  rw [hiByte, BitVec.setWidth_eq_extractLsb' (by decide)]
  ext i hi
  simp

end Sys2Proof.Machine

namespace Sys2Proof.Safety

open Sys2Proof.Machine

/-- `Encode(s, fc, p)` is the body followed by its CRC (R120). -/
theorem encodeFrame_eq_withCrc (slave fc : Byte) (p : List Byte) :
    encodeFrame slave fc p = withCrc (slave :: fc :: p) := by
  simp only [encodeFrame, withCrc, loByte_eq_extract, hiByte_eq_extract]

/-- A field of a payload, high byte first (R68). -/
theorem halfBytes_eq (w : Half) : halfBytes w = [w.extractLsb' 8 8, w.extractLsb' 0 8] := by
  rw [halfBytes, hiByte_eq_extract, loByte_eq_extract]

/-- A byte of the low half of a register is that byte of the register (R7, R197). -/
theorem extract_lowHalf (w : Word) {k : Nat} (hk : k < 2) :
    (w.extractLsb' 0 16).extractLsb' (8 * k) 8 = byteOf w k := by
  ext i hi
  simp [byteOf, show 8 * k + i < 16 by omega]

/-- The 16-bit field of a register is its two low bytes (R68, R197). -/
theorem halfBytes_extract (w : Word) : halfBytes (w.extractLsb' 0 16) = [byteOf w 1, byteOf w 0] := by
  rw [halfBytes_eq, ← extract_lowHalf w (show 1 < 2 by decide), ← extract_lowHalf w (show 0 < 2 by decide)]

variable {s : State} {op : BusOp}

/-- The latched request in the wording of claims (R197). -/
theorem latchedRequest_eq (op : BusOp) (s : State) : latchedRequest op s = requestOf op s := by
  simp only [latchedRequest, requestOf, BitVec.setWidth_eq_extractLsb' (show 8 ≤ 32 by decide),
    BitVec.setWidth_eq_extractLsb' (show 16 ≤ 32 by decide)]

/-- Everything a legal bus command writes on an open idle block (R152, R197). -/
theorem exchangeStarted_of_legal (h : Inv s) (hbusy : s.busy = false) (hopen : s.isOpen = true)
    (hargs : ArgsLegal op s) :
    ∃ t, exec (commandOf op) s = .next t ∧
      ExchangeStarted s t op (requestFrame (requestOf op s) s.data) (expLenOf op s.arg.toNat) := by
  have hvalid := (validArgs_iff op s).2 hargs
  have hde := (idle_of_not_busy h hbusy).2
  obtain ⟨hinvalid, -⟩ | ⟨-, hclosed, -⟩ | ⟨-, -, hbegun⟩ := busCommand_cases op s
  · simp [hvalid] at hinvalid
  · simp [hopen] at hclosed
  have harg : (requestOf op s).arg.toNat = s.arg.toNat := latchedRequest_eq op s ▸ latchedRequest_arg_toNat hvalid
  have hpin : rtsEnabled (loadRequest (requestOf op s) s) = true → (loadRequest (requestOf op s) s).deDrv = true := by
    simpa [rtsEnabled, rtsMode] using h.driven hopen
  have hassert := assertActions_of_released ((loadRequest_de s (requestOf op s)).trans hde) hpin
  rw [latchedRequest_eq] at hbegun
  refine ⟨busCommand op s, exec_commandOf op s, ?fields, fun i hi => ?buffer⟩
  case fields =>
    rw [hbegun, beginExchange_eq, hassert]
    simp only [loadRequest, harg, hde, Bool.false_or]
    rfl
  case buffer =>
    rw [hbegun, beginExchange_eq]
    simp only [loadRequest_txbuf, storeFrame_getElem, List.getD_eq_getElem?_getD]
    split
    · simp [*]
    · simp [*]

/-- The frame of format Q4 of the commands whose second field is `ARG` (R87, R197). -/
theorem requestFrame_of_q4 (hop : op = .rdcoil ∨ op = .rdireg ∨ op = .rdhreg ∨ op = .wrreg) (data : Vector Half 125) :
    requestFrame (requestOf op s) data =
      withCrc
        [byteOf s.slave 0, functionCode op, byteOf s.addr 1, byteOf s.addr 0, byteOf s.arg 1, byteOf s.arg 0] := by
  have hpayload : payload (requestOf op s) data =
      halfBytes (requestOf op s).addr ++ halfBytes (requestOf op s).arg := by
    obtain rfl | rfl | rfl | rfl := hop <;> rfl
  rw [requestFrame, encodeFrame_eq_withCrc, hpayload, requestOf, halfBytes_extract, halfBytes_extract]
  rfl

/-- The value field of a coil write: FF00 for 1, 0000 for 0 (R87, R197). -/
theorem halfBytes_coilValue (h : s.arg.toNat ≤ 1) :
    halfBytes (coilValue (requestOf .wrcoil s).arg) = [if s.arg = 1 then 0xFF else 0x00, 0x00] := by
  have hcases : s.arg = 0 ∨ s.arg = 1 := by
    have hval : s.arg.toNat = 0 ∨ s.arg.toNat = 1 := by omega
    exact hval.imp BitVec.eq_of_toNat_eq BitVec.eq_of_toNat_eq
  obtain harg | harg := hcases <;> simp only [requestOf, harg] <;> decide

/-- The frame of format Q4 of a coil write (R87, R197). -/
theorem requestFrame_of_wrcoil (h : s.arg.toNat ≤ 1) (data : Vector Half 125) :
    requestFrame (requestOf .wrcoil s) data =
      withCrc [byteOf s.slave 0, 0x05, byteOf s.addr 1, byteOf s.addr 0, if s.arg = 1 then 0xFF else 0x00, 0x00] := by
  have hpayload : payload (requestOf .wrcoil s) data =
      halfBytes (requestOf .wrcoil s).addr ++ halfBytes (coilValue (requestOf .wrcoil s).arg) := rfl
  rw [requestFrame, encodeFrame_eq_withCrc, hpayload, halfBytes_coilValue h, requestOf, halfBytes_extract]
  rfl

/-- The frame of format QM (R88, R197): the count fits one byte. -/
theorem requestFrame_of_wrregs (h : s.arg.toNat ≤ 123) (data : Vector Half 125) :
    requestFrame (requestOf .wrregs s) data =
      withCrc ([byteOf s.slave 0, 0x10, byteOf s.addr 1, byteOf s.addr 0, 0x00, byteOf s.arg 0,
          BitVec.ofNat 8 (2 * s.arg.toNat)] ++
        (data.toList.take s.arg.toNat).flatMap fun v => [v.extractLsb' 8 8, v.extractLsb' 0 8]) := by
  have harg : (requestOf .wrregs s).arg.toNat = s.arg.toNat := by
    simp only [requestOf, BitVec.extractLsb'_toNat]
    omega
  have hhigh : byteOf s.arg 1 = 0x00 := by
    apply BitVec.eq_of_toNat_eq
    simp [byteOf, Nat.shiftRight_eq_div_pow]
    omega
  have hpayload : payload (requestOf .wrregs s) data =
      halfBytes (requestOf .wrregs s).addr ++ halfBytes (requestOf .wrregs s).arg ++
        [BitVec.ofNat 8 (2 * s.arg.toNat)] ++ (data.toList.take s.arg.toNat).flatMap halfBytes := by
    rw [← harg]
    rfl
  rw [requestFrame, encodeFrame_eq_withCrc, hpayload, requestOf, halfBytes_extract, halfBytes_extract, hhigh,
    funext halfBytes_eq]
  rfl

/-- Settles O8: the three reads differ in their function code and their response length. -/
theorem readCommandsStartExchange : Obligations.ReadCommandsStartExchange := by
  intro s h hbusy hopen
  refine ⟨fun hargs => ?_, fun hargs => ?_, fun hargs => ?_⟩
  · have hstarted := exchangeStarted_of_legal h hbusy hopen hargs
    rwa [requestFrame_of_q4 (by simp)] at hstarted
  · have hstarted := exchangeStarted_of_legal h hbusy hopen hargs
    rwa [requestFrame_of_q4 (by simp)] at hstarted
  · have hstarted := exchangeStarted_of_legal h hbusy hopen hargs
    rwa [requestFrame_of_q4 (by simp)] at hstarted

/-- Settles O9: the coil value is the one field that is not a register's. -/
theorem singleWritesStartExchange : Obligations.SingleWritesStartExchange := by
  intro s h hbusy hopen
  refine ⟨fun hargs => ?_, fun hargs => ?_⟩
  · have hstarted := exchangeStarted_of_legal h hbusy hopen hargs
    rwa [requestFrame_of_wrcoil hargs.2.2] at hstarted
  · have hstarted := exchangeStarted_of_legal h hbusy hopen hargs
    rwa [requestFrame_of_q4 (by simp)] at hstarted

/-- Settles O10: the count of at most 123 leaves its high byte 0. -/
theorem writeRegistersStartsExchange : Obligations.WriteRegistersStartsExchange := by
  intro s h hbusy hopen hargs
  have hstarted := exchangeStarted_of_legal h hbusy hopen hargs
  rwa [requestFrame_of_wrregs hargs.2.2.2] at hstarted

end Sys2Proof.Safety
end

section
/-!
PROOF. The lifecycle commands and the bus commands that end at once (44_hub_lifecycle.md sections 1 to 3,
43_rtu_master.md section 2).
-/

namespace Sys2Proof.Safety

open Sys2Proof.Machine

variable {s t : State}

/-- Settles O14: the argument check comes first, and completing an idle block writes only `done` and `ERR`. -/
theorem badArgumentsNeverReachTheWire : Obligations.BadArgumentsNeverReachTheWire := by
  intro op s h hbusy hbad
  obtain ⟨hphase, hde⟩ := idle_of_not_busy h hbusy
  have hinvalid : validArgs op s = false := by
    rw [← Bool.not_eq_true, validArgs_iff]
    exact hbad
  calc exec (commandOf op) s
      = .next (busCommand op s) := exec_commandOf op s
    _ = .next (complete .invalidArgument 0 s) := congrArg _ (if_pos hinvalid)
    _ = .next { s with errCode := 2, errExc := 0, done := true } :=
        congrArg _ (complete_of_idle hphase hde hbusy .invalidArgument 0)

/-- OPEN of a closed block checks the configuration first, then the port (R220). -/
theorem execOpen_of_closed (hclosed : s.isOpen = false) :
    execOpen s =
      if legalConfig s = false then .next (complete .configError 0 s)
      else if s.portOk = false then .next (complete .ioError 0 s)
      else .next (complete .success 0 (connect s)) := by
  unfold execOpen
  rw [hclosed, if_neg Bool.false_ne_true]

/-- Settles O12: the three ways in which OPEN opens nothing, in the order of R220. -/
theorem openCornerCases : Obligations.OpenCornerCases := by
  intro s h hbusy
  obtain ⟨hphase, hde⟩ := idle_of_not_busy h hbusy
  have hcomplete := complete_of_idle hphase hde hbusy
  refine ⟨fun hopen => ?alreadyOpen, fun hclosed hbad => ?illegal,
    fun hclosed hbaud hrefused hparity hmode hport => ?noPort⟩
  case alreadyOpen =>
    have hexec : execOpen s = .next (complete .success 0 s) := if_pos hopen
    exact hexec.trans (congrArg _ (hcomplete .success 0))
  case illegal =>
    have hillegal : legalConfig s = false := by
      rw [← Bool.not_eq_true, legalConfig_iff]
      tauto
    have hexec := (execOpen_of_closed hclosed).trans (if_pos hillegal)
    exact hexec.trans (congrArg _ (hcomplete .configError 0))
  case noPort =>
    have hlegal : ¬ legalConfig s = false := by
      rw [Bool.not_eq_false, legalConfig_iff]
      exact ⟨hbaud, hrefused, hparity, hmode⟩
    have hexec := (execOpen_of_closed hclosed).trans ((if_neg hlegal).trans (if_pos hport))
    exact hexec.trans (congrArg _ (hcomplete .ioError 0))

/-- The pin is driven to its de-asserted level: 0 for MODE 1, 1 for MODE 2 (R44, R221). -/
theorem openActions_eq (s : State) :
    (if rtsEnabled s then [Action.pin (dePin { s with isOpen := true, deDrv := true, de := false })] else []) =
      if s.cfgRts.extractLsb' 0 2 = 1#2 then [.pin .low]
      else if s.cfgRts.extractLsb' 0 2 = 2#2 then [.pin .high]
      else [] := by
  by_cases h1 : s.cfgRts.extractLsb' 0 2 = 1#2
  · simp [rtsEnabled, rtsMode, dePin, h1]
  · by_cases h2 : s.cfgRts.extractLsb' 0 2 = 2#2 <;> simp [rtsEnabled, rtsMode, dePin, h1, h2]

/-- Settles O11: the connection, then the completion of an idle block. -/
theorem openConnects : Obligations.OpenConnects := by
  intro s h hbusy hclosed hbaud hrefused hparity hmode hport
  obtain ⟨hphase, hde⟩ := idle_of_not_busy h hbusy
  have hpin : s.deDrv = false := by simpa [hclosed] using h.de_drv_iff
  have hlegal : ¬ legalConfig s = false := by
    rw [Bool.not_eq_false, legalConfig_iff]
    exact ⟨hbaud, hrefused, hparity, hmode⟩
  have husable : ¬ s.portOk = false := by simp [hport]
  have hreleased : (s.de && !rtsEnabled s) = s.de := by rw [hde, Bool.false_and]
  have hconnect := connect_eq s
  rw [hreleased, hpin, Bool.false_or, openActions_eq] at hconnect
  calc execOpen s
      = .next (complete .success 0 (connect s)) :=
        (execOpen_of_closed hclosed).trans ((if_neg hlegal).trans (if_neg husable))
    _ = .next { connect s with errCode := 0, errExc := 0, done := true } :=
        congrArg _ (complete_of_idle (by rw [hconnect]; exact hphase) (by rw [hconnect]; exact hde)
          (by rw [hconnect]; exact hbusy) .success 0)
    _ = _ := by rw [hconnect]; rfl

/-- Settles O13: the disconnection, then the completion of an idle block. -/
theorem closeDisconnects : Obligations.CloseDisconnects := by
  intro s h hbusy
  obtain ⟨hphase, hde⟩ := idle_of_not_busy h hbusy
  have hreleased : (s.de && !s.deDrv) = s.de := by rw [hde, Bool.false_and]
  have hdisconnect := disconnect_eq s
  rw [hreleased] at hdisconnect
  calc execClose s
      = .next { disconnect s with errCode := 0, errExc := 0, done := true } :=
        congrArg _ (complete_of_idle (by rw [hdisconnect]; exact hphase) (by rw [hdisconnect]; exact hde)
          (by rw [hdisconnect]; exact hbusy) .success 0)
    _ = _ := by rw [hdisconnect]

/-! ### The two ends of an accepted `CMD` write -/

/-- From `s` to `t` a command has run to one of its two ends in the step of the `CMD` write: completed, or begun. -/
def EndsDoneOrBusy (s t : State) : Prop :=
  t.cmd = s.cmd ∧ t.rej = s.rej ∧ (t.done = true ∧ t.busy = false ∨ t.done = s.done ∧ t.busy = true)

theorem endsDoneOrBusy_complete (code : ErrorCode) (exc : Byte) (s : State) :
    EndsDoneOrBusy s (complete code exc s) := by
  rw [complete_eq]
  exact ⟨rfl, rfl, .inl ⟨rfl, rfl⟩⟩

theorem endsDoneOrBusy_busCommand (op : BusOp) (s : State) : EndsDoneOrBusy s (busCommand op s) := by
  obtain ⟨-, h⟩ | ⟨-, -, h⟩ | ⟨-, -, h⟩ := busCommand_cases op s <;> rw [h]
  · exact endsDoneOrBusy_complete _ _ s
  · exact endsDoneOrBusy_complete _ _ s
  · simp [EndsDoneOrBusy, beginExchange_eq]

theorem endsDoneOrBusy_execOpen (s : State) : ∃ t, execOpen s = .next t ∧ EndsDoneOrBusy s t := by
  obtain ⟨-, h⟩ | ⟨-, -, h⟩ | ⟨-, -, -, h⟩ | ⟨-, -, -, h⟩ := execOpen_cases s <;> refine ⟨_, h, ?_⟩
  case inr.inr.inr => simp [EndsDoneOrBusy, complete_eq, connect_eq]
  all_goals exact endsDoneOrBusy_complete _ _ s

theorem endsDoneOrBusy_execClose (s : State) : ∃ t, execClose s = .next t ∧ EndsDoneOrBusy s t :=
  ⟨_, rfl, by simp [EndsDoneOrBusy, complete_eq, disconnect_eq]⟩

/-- Every command ends in one of the two ways (R226). -/
theorem endsDoneOrBusy_exec (i : Instr) (s : State) : ∃ t, exec i s = .next t ∧ EndsDoneOrBusy s t := by
  cases i
  case openPort => exact endsDoneOrBusy_execOpen s
  case closePort => exact endsDoneOrBusy_execClose s
  all_goals exact ⟨_, rfl, endsDoneOrBusy_busCommand _ s⟩

/-- Settles O7: a word that is no command completes, and a command ends in one of the two ways. -/
theorem acceptedCmdWriteEndsDoneOrBusy : Obligations.AcceptedCmdWriteEndsDoneOrBusy := by
  intro s w _ hbusy
  have hwrite := hostWrite_cmd w s
  obtain ⟨hb, -⟩ | ⟨-, -, hs⟩ | ⟨-, i, -, hs⟩ := start_cases w { s with bus := .ack }
  · simp [hbusy] at hb
  · exact ⟨_, hwrite.trans hs, endsDoneOrBusy_complete _ _ (accept w { s with bus := .ack })⟩
  · obtain ⟨t, hexec, hends⟩ := endsDoneOrBusy_exec i (accept w { s with bus := .ack })
    exact ⟨t, hwrite.trans (hs.trans hexec), hends⟩

end Sys2Proof.Safety
end

section
/-!
PROOF. Host accesses to the registers and buffers (10_state.md sections 2 to 5, 20_memory.md section 2,
60_exceptions.md section 3).
-/

namespace Sys2Proof.Safety

open Sys2Proof.Machine

/-- A read that is performed answers the value of its register (R63). -/
theorem leads_hostRead (s : State) {off : Nat} {r : Reg} {w : Word} (hoff : off % 4 = 0 ∧ off < 0x1000)
    (hreg : regAt off = r) (hvalue : readReg r s = w) : Leads s (.hostRead off 4) { s with bus := .data w } := by
  refine congrArg Host.Outcome.next ?_
  rw [hostRead_eq s off hoff.1 hoff.2, hreg, hvalue]

/-- A write that is performed has the effect of its register's rule (R64). -/
theorem leads_hostWrite (s : State) {off : Nat} {r : Reg} {v : Word} {t : State} (hoff : off % 4 = 0 ∧ off < 0x1000)
    (hreg : regAt off = r) (heffect : writeReg r v { s with bus := .ack } = .next t) :
    Leads s (.hostWrite off 4 v) t := by
  have hwrite := hostWrite_eq s off v hoff.1 hoff.2
  rw [hreg, heffect] at hwrite
  exact hwrite

/-- A flag in bit 0 (R22). -/
theorem flagAt_zero (b : Bool) : flagAt 0 b = if b then 1 else 0 := by cases b <;> rfl

/-- A narrower value in a 32-bit register (R42, R43, R48). -/
theorem setWidth_eq_ofNat {n : Nat} (x : BitVec n) : x.setWidth 32 = BitVec.ofNat 32 x.toNat :=
  (BitVec.ofNat_toNat 32 x).symm

/-- The word of ERR: EXC in bits 15:8, CODE in bits 7:0 (R33). -/
theorem errWord_eq (s : State) : errWord s = BitVec.ofNat 32 (256 * s.errExc.toNat + s.errCode.toNat) := by
  have hexc := s.errExc.isLt
  have hcode := s.errCode.isLt
  have hdisjoint := Nat.shiftLeft_add_eq_or_of_lt hcode s.errExc.toNat
  rw [Nat.shiftLeft_eq] at hdisjoint
  apply BitVec.eq_of_toNat_eq
  rw [errWord, BitVec.toNat_or, BitVec.toNat_shiftLeft, BitVec.toNat_setWidth_of_le (by decide),
    BitVec.toNat_setWidth_of_le (by decide), BitVec.toNat_ofNat, Nat.shiftLeft_eq, Nat.mod_eq_of_lt (by omega),
    Nat.mod_eq_of_lt (by omega), ← hdisjoint]
  omega

/-- Settles O29: each offset holds its register, and each register reads as its value. -/
theorem readsReturnRegisterValues : Obligations.ReadsReturnRegisterValues := by
  intro s
  refine ⟨?ctrl, ?cmd, ?slave, ?addr, ?arg, ?err, ?rxcnt, ?baud, ?line, ?timeout, ?rts, ?delay, ?txlen, ?explen, ?timer,
    fun i hi => ?data, fun i hi => ?txbuf, fun i hi => ?rxbuf⟩
  case ctrl => exact leads_hostRead s (by decide) rfl (flagAt_zero s.ie)
  case err => exact leads_hostRead s (by decide) rfl (errWord_eq s)
  case rxcnt | txlen | explen => exact leads_hostRead s (by decide) rfl (setWidth_eq_ofNat _)
  case data => exact leads_hostRead s (by omega) (regAt_data i hi) (setWidth_eq_ofNat _)
  case txbuf => exact leads_hostRead s (by omega) (regAt_txbuf i hi) (setWidth_eq_ofNat _)
  case rxbuf => exact leads_hostRead s (by omega) (regAt_rxbuf i hi) (setWidth_eq_ofNat _)
  all_goals exact leads_hostRead s (by decide) rfl rfl

/-- Bit `j` of a flag at bit `i` (R23). -/
theorem getLsbD_flagAt {i j : Nat} (hj : j < 32) (b : Bool) : (flagAt i b).getLsbD j = (decide (j = i) && b) := by
  simp only [flagAt, BitVec.getLsbD_shiftLeft, BitVec.getLsbD_setWidth, BitVec.getLsbD_ofBool]
  by_cases hji : j = i
  · subst hji
    simp [hj]
  · simp [hji]
    omega

/-- Bit `j` of STATUS (R23). -/
theorem getLsbD_statusWord (s : State) {j : Nat} (hj : j < 32) :
    (statusWord s).getLsbD j =
      (decide (j = 0) && s.isOpen || decide (j = 1) && s.busy || decide (j = 2) && s.done ||
        decide (j = 3) && s.rej || decide (j = 4) && s.de || decide (j = 5) && s.deDrv ||
        decide (8 ≤ j) && (phaseCode s.phase).getLsbD (j - 8)) := by
  have hphase : ((phaseCode s.phase).setWidth 32 <<< 8).getLsbD j =
      (decide (8 ≤ j) && (phaseCode s.phase).getLsbD (j - 8)) := by
    rw [BitVec.getLsbD_shiftLeft, BitVec.getLsbD_setWidth, decide_eq_true hj, decide_eq_true (by omega : j - 8 < 32),
      Bool.true_and, Bool.true_and, ← decide_not, Bool.decide_congr Nat.not_lt]
  simp only [statusWord, BitVec.getLsbD_or, getLsbD_flagAt hj, hphase]

/-- Above the flags STATUS holds the phase number only (R23). -/
theorem getLsbD_statusWord_of_ge (s : State) {j : Nat} (hj : j < 32) (hflags : 6 ≤ j) :
    (statusWord s).getLsbD j = (decide (8 ≤ j) && (phaseCode s.phase).getLsbD (j - 8)) := by
  have hno : ∀ i < 6, decide (j = i) = false := fun i hi => decide_eq_false (by omega)
  rw [getLsbD_statusWord s hj]
  simp only [hno, Nat.reduceLT, Bool.false_and, Bool.false_or]

/-- Settles O30: the flags and the phase number stand at disjoint places of the word. -/
theorem statusReadLayout : Obligations.StatusReadLayout := by
  intro s
  refine ⟨statusWord s, leads_hostRead s (by decide) rfl rfl, ?_, ?_, ?_, ?_, ?_, ?_, ?between, ?phase, ?above⟩
  case between =>
    ext i hi
    rw [BitVec.getElem_extractLsb', getLsbD_statusWord_of_ge s (by omega) (by omega),
      decide_eq_false (by omega : ¬ 8 ≤ 6 + i), Bool.false_and]
    exact (BitVec.getElem_zero hi).symm
  case phase =>
    have hnumber : (match s.phase with | .idle => 0 | .pre => 1 | .tx => 2 | .post => 3 | .rx => 4) =
        phaseCode s.phase := by cases s.phase <;> rfl
    refine Eq.trans ?_ hnumber.symm
    ext i hi
    rw [BitVec.getElem_extractLsb', getLsbD_statusWord_of_ge s (by omega) (by omega),
      decide_eq_true (by omega : 8 ≤ 8 + i), Bool.true_and, Nat.add_sub_cancel_left, BitVec.getLsbD_eq_getElem]
  case above =>
    ext i hi
    rw [BitVec.getElem_extractLsb', getLsbD_statusWord_of_ge s (by omega) (by omega),
      BitVec.getLsbD_of_ge _ _ (by omega : 3 ≤ 11 + i - 8), Bool.and_false]
    exact (BitVec.getElem_zero hi).symm
  all_goals
    rw [getLsbD_statusWord s (by decide)]
    simp

/-- The registers of R64's read-only row ignore every write. -/
theorem readOnly_at {off : Nat} (haligned : off % 4 = 0)
    (hrange : off = 0x018 ∨ off = 0x01C ∨ 0x034 ≤ off ∧ off ≤ 0x03C ∨ 0x400 ≤ off ∧ off ≤ 0xBFC) :
    ∃ r, regAt off = r ∧ ∀ (v : Word) (s : State), writeReg r v s = .next s := by
  obtain rfl | rfl | ⟨hlow, hhigh⟩ | ⟨hlow, hhigh⟩ := hrange
  · exact ⟨.err, rfl, fun _ _ => rfl⟩
  · exact ⟨.rxcnt, rfl, fun _ _ => rfl⟩
  · have hword : off = 0x034 ∨ off = 0x038 ∨ off = 0x03C := by omega
    obtain rfl | rfl | rfl := hword
    · exact ⟨.txlen, rfl, fun _ _ => rfl⟩
    · exact ⟨.explen, rfl, fun _ _ => rfl⟩
    · exact ⟨.timer, rfl, fun _ _ => rfl⟩
  · by_cases htx : off < 0x800
    · obtain ⟨i, rfl⟩ : ∃ i, off = 0x400 + 4 * i := ⟨(off - 0x400) / 4, by omega⟩
      exact ⟨_, regAt_txbuf i (by omega), fun _ _ => rfl⟩
    · obtain ⟨i, rfl⟩ : ∃ i, off = 0x800 + 4 * i := ⟨(off - 0x800) / 4, by omega⟩
      exact ⟨_, regAt_rxbuf i (by omega), fun _ _ => rfl⟩

/-- Settles O28: the rule of each of these registers ignores the write. -/
theorem readOnlyRegistersIgnoreWrites : Obligations.ReadOnlyRegistersIgnoreWrites := by
  intro s off v haligned hrange
  obtain ⟨r, hreg, hrule⟩ := readOnly_at haligned hrange
  exact leads_hostWrite s (by omega) hreg (hrule v _)

/-- Settles O31: a flag stays set exactly if its bit is 0. -/
theorem statusWriteClearsFlags : Obligations.StatusWriteClearsFlags := by
  intro s v
  refine leads_hostWrite s (by decide) rfl (congrArg Host.Outcome.next ?_)
  unfold acknowledge
  cases v.getLsbD 2 <;> cases v.getLsbD 3 <;> simp

/-- Settles O32: each of these registers stores its value whatever the block is doing. -/
theorem operandWritesStore : Obligations.OperandWritesStore := by
  intro s v
  refine ⟨?ctrl, ?slave, ?addr, ?arg, fun i hi => ?data⟩
  case data =>
    refine leads_hostWrite s (by omega) (regAt_data i hi) ?_
    rw [← BitVec.setWidth_eq_extractLsb' (by decide)]
    rfl
  all_goals exact leads_hostWrite s (by decide) rfl rfl

/-- A write of a `CFG_*` register of a closed block (R35). -/
theorem configWrite_of_closed {s : State} (h : s.isOpen = false) (store : State) : configWrite store s = store := by
  unfold configWrite
  rw [h, if_neg Bool.false_ne_true]

/-- A write of a `CFG_*` register of an open block (R35). -/
theorem configWrite_of_open {s : State} (h : s.isOpen = true) (store : State) :
    configWrite store s = { s with rej := true } := if_pos h

/-- Settles O33: the five registers share one write rule. -/
theorem configWriteRule : Obligations.ConfigWriteRule := by
  intro s v
  refine ⟨fun hclosed => ?closed, fun hopen => ?opened⟩
  case closed =>
    refine ⟨?_, ?_, ?_, ?_, ?_⟩ <;>
      exact leads_hostWrite s (by decide) rfl
        (congrArg Host.Outcome.next (configWrite_of_closed (s := { s with bus := .ack }) hclosed _))
  case opened =>
    have hrefused : ∀ store, configWrite store { s with bus := .ack } = { s with bus := .ack, rej := true } :=
      configWrite_of_open (s := { s with bus := .ack }) hopen
    simp only [List.forall_mem_cons, List.not_mem_nil, false_imp_iff, implies_true, and_true]
    refine ⟨?_, ?_, ?_, ?_, ?_⟩ <;> exact leads_hostWrite s (by decide) rfl (congrArg Host.Outcome.next (hrefused _))

/-- Settles O34: IE is bit 0 of CTRL, and bit 2 of STATUS clears `done`. -/
theorem interruptFollowsDoneAndEnable : Obligations.InterruptFollowsDoneAndEnable := by
  intro s
  refine ⟨⟨_, (operandWritesStore s 1).1, ?enabled⟩, ⟨_, (operandWritesStore s 0).1, ?disabled⟩,
    ⟨_, statusWriteClearsFlags s 4, ?acknowledged⟩⟩
  case enabled => exact Bool.and_true s.done
  case disabled => exact Bool.and_false s.done
  case acknowledged => exact Bool.false_and s.ie

/-- Settles O19: IDLE and TX are not timed, and a byte is collected only in RX. -/
theorem ticksAndBytesOutsideTheirPhases : Obligations.TicksAndBytesOutsideTheirPhases := by
  intro s b
  refine ⟨fun hphase => ?tick, fun hphase => if_neg hphase⟩
  case tick =>
    change tick s = .next s
    unfold tick
    obtain h | h := hphase <;> rw [h]

/-- Settles O24: `resetBlock` starts from `State.reset`. -/
theorem resetEventRestoresResetValues : Obligations.ResetEventRestoresResetValues := by
  intro s
  refine ⟨resetBlock s, rfl, ?values, ?trace, rfl, rfl⟩
  case values =>
    have hpin : dePin (resetBlock s) = .z := dePin_of_not_driven rfl
    exact ⟨rfl, rfl, rfl, rfl, rfl, rfl, rfl, hpin, rfl, rfl, rfl, rfl, rfl, rfl, rfl, rfl, rfl, rfl, rfl, rfl,
      rfl, rfl, rfl, rfl, rfl⟩
  case trace => unfold resetBlock; split <;> simp

end Sys2Proof.Safety
end

section
/-!
PROOF. Short runs (00_scope.md section 6): the expansion of a WRREG line (30_encoding.md section 5), the ticks of the
pre-delay (42_serial_transport.md section 2), the last byte and a tick in one clock cycle (60_exceptions.md section 4);
and several instances (60_exceptions.md section 8).
-/

namespace Sys2Proof.Safety

open Sys2Proof.Machine

variable {s t : State}

/-- A run over pending events applies the oldest one first. -/
theorem run_cons (s : State) (rest : List Event) {e : Event} (h : Leads (withEvents s rest) e t) (k : Nat) :
    core.run (k + 1) (withEvents s (e :: rest)) = core.run k t :=
  run_succ ((stepAppliesOldestEvent.1 s e rest).trans h) k

/-- A run of one step is the step. -/
theorem run_one (s : State) : core.run 1 s = step s := by
  have hcore : core.step s = step s := rfl
  simp only [Host.Core.run, hcore]
  cases step s <;> rfl

/-- Settles O59: the first three writes store the operands, and the fourth is an accepted `CMD` write of WRREG. -/
theorem wrregLineRunsWrreg : Obligations.WrregLineRunsWrreg := by
  intro s slave addr value hbusy
  have hslave : ∀ u, Leads u (wr 0x00C slave) { u with bus := .ack, slave := slave } := fun u =>
    let ⟨_, h, _⟩ := operandWritesStore u slave; h
  have haddr : ∀ u, Leads u (wr 0x010 addr) { u with bus := .ack, addr := addr } := fun u =>
    let ⟨_, _, h, _⟩ := operandWritesStore u addr; h
  have harg : ∀ u, Leads u (wr 0x014 value) { u with bus := .ack, arg := value } := fun u =>
    let ⟨_, _, _, h, _⟩ := operandWritesStore u value; h
  refine (run_cons s _ (hslave _) 3).trans ?_
  refine (run_cons { s with bus := .ack, slave := slave } _ (haddr _) 2).trans ?_
  refine (run_cons { s with bus := .ack, slave := slave, addr := addr } _ (harg _) 1).trans ((run_one _).trans ?_)
  exact stepRunsDecodedCommand { s with bus := .ack, slave := slave, addr := addr, arg := value } 5 .wrreg [] hbusy
    (decode_encode .wrreg)

/-- One tick of the pre-delay, which is not the last one (R156). -/
theorem leads_tick_of_pre (hphase : s.phase = .pre) (h1 : 1 < s.timer.toNat) :
    Leads s .tick { s with timer := s.timer - 1 } := by
  have hne : s.timer ≠ 1 := by bv_omega
  have htick := tickInPre s hphase (by omega)
  rwa [if_neg hne] at htick

/-- The last tick of the pre-delay (R156). -/
theorem leads_tick_of_pre_last (hphase : s.phase = .pre) (h1 : s.timer = 1) :
    Leads s .tick { s with timer := 0, phase := .tx, txIdx := 0 } := by
  have htick := tickInPre s hphase (by simp [h1])
  rwa [if_pos h1] at htick

/-- The ticks of the pre-delay before its last one, whatever events come after them (R156). -/
theorem run_ticks_of_pre (k : Nat) (rest : List Event) (n : Nat) (hphase : s.phase = .pre) (hk : k < s.timer.toNat) :
    core.run (k + n) (withEvents s (List.replicate k .tick ++ rest)) =
      core.run n (withEvents { s with timer := s.timer - BitVec.ofNat 32 k } rest) := by
  induction k generalizing s with
  | zero => simp
  | succ k ih =>
    have hrunning : 1 < s.timer.toNat := by omega
    have hmore : k < (s.timer - 1).toNat := by bv_omega
    have hnext : s.timer - 1 - BitVec.ofNat 32 k = s.timer - BitVec.ofNat 32 (k + 1) := by
      rw [Nat.add_comm, BitVec.ofNat_add, ← BitVec.sub_sub]
      rfl
    rw [Nat.add_right_comm, List.replicate_succ, List.cons_append]
    calc core.run (k + n + 1) (withEvents s (.tick :: (List.replicate k .tick ++ rest)))
        = core.run (k + n) (withEvents { s with timer := s.timer - 1 } (List.replicate k .tick ++ rest)) :=
          run_cons s (List.replicate k .tick ++ rest) (leads_tick_of_pre hphase hrunning) (k + n)
      _ = core.run n (withEvents { s with timer := s.timer - 1 - BitVec.ofNat 32 k } rest) :=
          ih (s := { s with timer := s.timer - 1 }) hphase hmore
      _ = core.run n (withEvents { s with timer := s.timer - BitVec.ofNat 32 (k + 1) } rest) := by rw [hnext]

/-- Settles O55: all ticks but the last count the timer down, and the last one enters TX. -/
theorem preDelayLastsExactly : Obligations.PreDelayLastsExactly := by
  intro s k hphase hk
  constructor
  · have hrun := run_ticks_of_pre k [] 0 hphase hk
    rwa [List.append_nil, Nat.add_zero] at hrun
  · obtain ⟨n, hn⟩ : ∃ n, s.timer.toNat = n + 1 := ⟨s.timer.toNat - 1, by omega⟩
    have hlast : s.timer - BitVec.ofNat 32 n = 1 := by bv_omega
    have hrun := run_ticks_of_pre n [.tick] 1 hphase (by omega)
    rw [hn, List.replicate_succ', hrun, hlast]
    exact run_cons { s with timer := 1 } [] (leads_tick_of_pre_last hphase rfl) 0

/-- What `Finish` leaves (R172, R250). -/
theorem finish_ends (s : State) : (finish s).phase = .idle ∧ (finish s).busy = false ∧ (finish s).done = true := by
  obtain ⟨code, exc, -, h⟩ | ⟨d, -, h⟩ := finish_cases s <;> rw [h] <;> exact ⟨rfl, rfl, rfl⟩

/-- Collecting a byte does not look at the pending events. -/
theorem collect_withEvents (b : Byte) (s : State) (es : List Event) (h : s.rxCnt.toNat < 256) :
    collect b (withEvents s es) h = withEvents (collect b s h) es :=
  (collect_eq b (withEvents s es) h).trans (by rw [collect_eq b s h]; rfl)

/-- `Finish` does not look at the pending events. -/
theorem finish_withEvents (s : State) (es : List Event) : finish (withEvents s es) = withEvents (finish s) es := by
  have hcomplete : ∀ code exc u, complete code exc (withEvents u es) = withEvents (complete code exc u) es := by
    intro code exc u
    rw [complete_eq, complete_eq]
    rfl
  obtain ⟨code, exc, hd, h⟩ | ⟨d, hd, h⟩ := finish_cases s
  · rw [h, ← hcomplete]
    exact finish_of_err hd
  · rw [h, ← hcomplete]
    exact finish_of_ok hd

/-- The byte that brings the count to `exp_len` is the last one: the second byte never is, so it is not revised (R171,
R52 (f)). -/
theorem collect_of_last (h : Inv s) (hphase : s.phase = .rx) (b : Byte) (hlast : s.rxCnt + 1 = s.expLen)
    (hi : s.rxCnt.toNat < 256) : (collect b s hi).rxCnt = (collect b s hi).expLen := by
  obtain ⟨-, -, hfive, -⟩ := h.receiving hphase
  have hnot : ¬ (s.rxCnt = 1 ∧ b.getLsbD 7 = true) := by
    rintro ⟨hone, -⟩
    rw [← hlast, hone] at hfive
    exact absurd hfive (by decide)
  rw [collect_eq_of_byte, if_neg hnot]
  exact hlast

/-- Settles O58: the byte completes the command, and the tick then finds the block idle. -/
theorem completingByteBeatsTimeout : Obligations.CompletingByteBeatsTimeout := by
  intro s b h hphase hlast
  have hi : s.rxCnt.toNat < 256 := by
    obtain ⟨-, hlt, -, hle⟩ := h.receiving hphase
    omega
  obtain ⟨hidle, hbusy, hdone⟩ := finish_ends (collect b s hi)
  have hbyte : ∀ es, Leads (withEvents s es) (.rxByte b) (withEvents (finish (collect b s hi)) es) := by
    intro es
    have hcollected : (collect b (withEvents s es) hi).rxCnt = (collect b (withEvents s es) hi).expLen := by
      rw [collect_withEvents]
      exact collect_of_last h hphase b hlast hi
    have hrx := rxByte_of_rx (s := withEvents s es) hphase hi b
    rw [if_pos hcollected, collect_withEvents, finish_withEvents] at hrx
    exact hrx
  have htick : Leads (withEvents (finish (collect b s hi)) []) .tick (withEvents (finish (collect b s hi)) []) :=
    (ticksAndBytesOutsideTheirPhases _ b).1 (.inl hidle)
  refine ⟨_, hbyte [], hbusy, hdone, ?_⟩
  exact (run_cons s [.tick] (hbyte [.tick]) 1).trans (run_cons _ [] htick 0)

/-- Settles O60: the platform step is the block's own step, put back at its place in the list. -/
theorem instancesAreIndependent : Obligations.InstancesAreIndependent := by
  intro p k s hk
  have hlt : k < p.length := (List.getElem?_eq_some_iff.1 hk).1
  refine ⟨fun t ht => ⟨p.set k t, ?step, List.length_set, ?own, fun j hj => ?others⟩, fun f hf => ?fault,
    fun r hr => ?refusal⟩
  case step => simp only [platformStep, hk, ht]
  case own => exact List.getElem?_set_self hlt
  case others => exact List.getElem?_set_ne hj.symm
  case fault => simp only [platformStep, hk, hf]
  case refusal => simp only [platformStep, hk, hr]

end Sys2Proof.Safety
end

section
/-!
PROOF. `Tick` in RX and `TxAccept` in TX (42_serial_transport.md sections 3 to 5).
-/

namespace Sys2Proof.Machine

/-- `Tick` in RX counts down to `Expire` (R165, R167). -/
theorem tick_of_rx {s : State} (h : s.phase = .rx) : tick s = countDown expire s := by
  unfold tick
  rw [h]

/-- The byte presented in TX is `TXBUF[tx_idx]` (R157). -/
theorem txData_of_tx {s : State} (h : s.phase = .tx) (hi : s.txIdx.toNat < 256) :
    txData s = some s.txbuf[s.txIdx.toNat] := by
  have hvalid : txValid s = true := by simp [txValid, h]
  unfold txData
  rw [if_pos hvalid, List.getElem?_eq_getElem (by simpa using hi), Vector.getElem_toList]

/-- `TxAccept` in TX hands over the byte, and the last one ends the transmission (R158). -/
theorem txAccept_of_tx {s : State} (h : s.phase = .tx) (hi : s.txIdx.toNat < 256) :
    txAccept s = .next (handOver s.txbuf[s.txIdx.toNat] s) := by
  unfold txAccept
  rw [if_pos h, dif_pos hi]

end Sys2Proof.Machine

namespace Sys2Proof.Safety

open Sys2Proof.Machine

/-- `Expire` in the wording of claims (R169). -/
theorem expire_eq_completed {s : State} (h : s.de = true → s.deDrv = true ∧ rtsEnabled s = true) :
    expire s = completed s (if s.rxCnt = 0 then 4 else 3) 0 := by
  rw [expire_eq, complete_eq_completed h]
  split <;> rfl

/-- Settles O18: R52 (f) has the timer running in RX, and what it counts down to is `Expire`. -/
theorem tickInRx : Obligations.TickInRx := by
  intro s h hphase
  obtain ⟨hrunning, -⟩ := h.receiving hphase
  have hdriven : s.de = true → s.deDrv = true ∧ rtsEnabled s = true := driven_of_asserted h
  have hexpire : expire { s with timer := 0 } = completed { s with timer := 0 } (if s.rxCnt = 0 then 4 else 3) 0 :=
    expire_eq_completed (s := { s with timer := 0 }) hdriven
  rw [← hexpire]
  exact (tick_of_rx hphase).trans (countDown_of_running hrunning expire)

/-- Settles O21: the byte handed over is the one presented, and after the last one `EnterRx` follows where no delay is
waited for. -/
theorem txAcceptHandsOverOneByte : Obligations.TxAcceptHandsOverOneByte := by
  intro s h hphase
  have hi : s.txIdx.toNat < 256 := by
    obtain ⟨hlt, -, hle⟩ := h.transmitting hphase
    omega
  refine ⟨s.txbuf[s.txIdx.toNat], txData_of_tx hphase hi, (txAccept_of_tx hphase hi).trans (congrArg _ ?_)⟩
  by_cases hlast : s.txIdx + 1 = s.txLen
  · refine Eq.trans (if_pos hlast) (Eq.trans ?_ (if_neg (not_not_intro hlast)).symm)
    by_cases hdelay : rtsEnabled s = true ∧ s.cfgRtsDelay ≠ 0
    · exact (if_pos hdelay).trans (if_pos hdelay).symm
    · refine (if_neg hdelay).trans (Eq.trans ?_ (if_neg hdelay).symm)
      have hdriven : s.de = true → s.deDrv = true ∧ rtsEnabled s = true := driven_of_asserted h
      exact enterRx_eq_receiverEnabled hdriven
  · exact Eq.trans (if_neg hlast) (if_pos hlast).symm

end Sys2Proof.Safety
end

section
/-!
PROOF. The CRC is linear over exclusive-or (40_crc16.md sections 2 and 3): the table form, the CRC of a whole frame,
and the detection of a single flipped bit.
-/

namespace Sys2Proof.Machine

/-! ### One shift -/

theorem crcShift_of_even {c : Half} (h : c.getLsbD 0 = false) : crcShift c = c >>> 1 := by
  unfold crcShift
  rw [h, if_neg Bool.false_ne_true]

theorem crcShift_of_odd {c : Half} (h : c.getLsbD 0 = true) : crcShift c = (c >>> 1) ^^^ 0xA001#16 := if_pos h

/-- One shift is linear. -/
theorem crcShift_xor (a b : Half) : crcShift (a ^^^ b) = crcShift a ^^^ crcShift b := by
  have hbit : (a ^^^ b).getLsbD 0 = (a.getLsbD 0 ^^ b.getLsbD 0) := BitVec.getLsbD_xor
  cases ha : a.getLsbD 0 <;> cases hb : b.getLsbD 0 <;> rw [ha, hb] at hbit
  · rw [crcShift_of_even hbit, crcShift_of_even ha, crcShift_of_even hb, BitVec.ushiftRight_xor_distrib]
  · rw [crcShift_of_odd hbit, crcShift_of_even ha, crcShift_of_odd hb, BitVec.ushiftRight_xor_distrib,
      BitVec.xor_assoc]
  · rw [crcShift_of_odd hbit, crcShift_of_odd ha, crcShift_of_even hb, BitVec.ushiftRight_xor_distrib,
      BitVec.xor_assoc, BitVec.xor_assoc, BitVec.xor_comm (0xA001#16)]
  · rw [crcShift_of_even hbit, crcShift_of_odd ha, crcShift_of_odd hb, BitVec.ushiftRight_xor_distrib,
      BitVec.xor_assoc, ← BitVec.xor_assoc (0xA001#16), BitVec.xor_comm (0xA001#16), BitVec.xor_assoc (b >>> 1),
      BitVec.xor_self, BitVec.xor_zero]

/-- One shift loses nothing: the bit shifted out is bit 15 of the result (R111). -/
theorem eq_zero_of_crcShift {c : Half} (h : crcShift c = 0) : c = 0 := by
  cases hbit : c.getLsbD 0
  · rw [crcShift_of_even hbit] at h
    apply BitVec.eq_of_getLsbD_eq
    rintro (_ | i) -
    · exact hbit
    · have hshifted := BitVec.getLsbD_ushiftRight c 1 i
      rw [h, Nat.add_comm 1] at hshifted
      exact hshifted.symm.trans (BitVec.getLsbD_zero.trans BitVec.getLsbD_zero.symm)
  · rw [crcShift_of_odd hbit] at h
    have htop := congrArg (BitVec.getLsbD · 15) h
    simp at htop

theorem crcShifts_xor (n : Nat) (a b : Half) : crcShifts n (a ^^^ b) = crcShifts n a ^^^ crcShifts n b := by
  induction n generalizing a b with
  | zero => rfl
  | succ n ih => simp only [crcShifts, crcShift_xor, ih]

theorem eq_zero_of_crcShifts {n : Nat} {c : Half} (h : crcShifts n c = 0) : c = 0 := by
  induction n generalizing c with
  | zero => exact h
  | succ n ih => exact eq_zero_of_crcShift (ih h)

/-- As long as the bits shifted out are 0, the shifts are plain ones. -/
theorem crcShifts_of_low_zero (n : Nat) (c : Half) (h : ∀ i < n, c.getLsbD i = false) : crcShifts n c = c >>> n := by
  induction n generalizing c with
  | zero => exact (BitVec.ushiftRight_zero c).symm
  | succ n ih =>
    rw [crcShifts, crcShift_of_even (h 0 (by omega)), ih, ← BitVec.shiftRight_add, Nat.add_comm]
    intro i hi
    rw [BitVec.getLsbD_ushiftRight]
    exact h (1 + i) (by omega)

theorem crcShifts_add (m n : Nat) (c : Half) : crcShifts (m + n) c = crcShifts n (crcShifts m c) := by
  induction m generalizing c with
  | zero => simp [crcShifts]
  | succ m ih => rw [Nat.add_right_comm, crcShifts, ih, crcShifts]

/-! ### The table form -/

/-- The low byte of a register value, as a 16-bit value. -/
theorem getLsbD_loByte (x : Half) {i : Nat} (hi : i < 8) : ((loByte x).setWidth 16).getLsbD i = x.getLsbD i := by
  simp [loByte, hi, show i < 16 by omega]

/-- What a byte shifts in is above the byte that the table is looked up at. -/
theorem setWidth_byte_ushiftRight (b : Byte) : (b.setWidth 16 : Half) >>> 8 = 0#16 := by
  ext i hi
  simp

/-- Eight shifts are a shift by a byte and the table entry of the byte shifted out (R114). -/
theorem crcShifts_eight (x : Half) : crcShifts 8 x = (x >>> 8) ^^^ crcTableEntry (loByte x) := by
  have hhigh : crcShifts 8 (x ^^^ (loByte x).setWidth 16) = x >>> 8 := by
    rw [crcShifts_of_low_zero, BitVec.ushiftRight_xor_distrib, setWidth_byte_ushiftRight, BitVec.xor_zero]
    intro i hi
    rw [BitVec.getLsbD_xor, getLsbD_loByte x hi, Bool.xor_self]
  calc crcShifts 8 x
      = crcShifts 8 (x ^^^ (loByte x).setWidth 16 ^^^ (loByte x).setWidth 16) := by
        rw [BitVec.xor_assoc, BitVec.xor_self, BitVec.xor_zero]
    _ = (x >>> 8) ^^^ crcTableEntry (loByte x) := by rw [crcShifts_xor, hhigh, crcTableEntry]

/-! ### Bytes and frames -/

/-- A difference in the register and a difference in the byte add up. -/
theorem crcByte_xor_register (c d : Half) (b : Byte) : crcByte (c ^^^ d) b = crcByte c b ^^^ crcShifts 8 d := by
  rw [crcByte, BitVec.xor_assoc, BitVec.xor_comm d, ← BitVec.xor_assoc, crcShifts_xor, crcByte]

theorem crcByte_xor_byte (c : Half) (b e : Byte) :
    crcByte c (b ^^^ e) = crcByte c b ^^^ crcShifts 8 (e.setWidth 16) := by
  rw [crcByte, BitVec.setWidth_xor, ← BitVec.xor_assoc, crcShifts_xor, crcByte]

/-- A difference in the register is shifted by the bytes that follow, whatever they are. -/
theorem foldl_crcByte_xor (l : List Byte) (c d : Half) :
    l.foldl crcByte (c ^^^ d) = l.foldl crcByte c ^^^ crcShifts (8 * l.length) d := by
  induction l generalizing c d with
  | nil => rfl
  | cons b l ih =>
    rw [List.foldl_cons, crcByte_xor_register, ih, List.foldl_cons, List.length_cons, Nat.mul_succ, Nat.add_comm,
      crcShifts_add]

/-- A byte that equals the low byte of the register shifts it out and changes nothing else. -/
theorem crcByte_loByte (c : Half) : crcByte c (c.extractLsb' 0 8) = c >>> 8 := by
  have hlow : loByte (c ^^^ (c.extractLsb' 0 8).setWidth 16) = 0#8 := by
    ext i hi
    simp [loByte, show i < 16 by omega]
  have hentry : crcTableEntry 0#8 = 0#16 := by decide
  rw [crcByte, crcShifts_eight, hlow, hentry, BitVec.xor_zero, BitVec.ushiftRight_xor_distrib,
    setWidth_byte_ushiftRight, BitVec.xor_zero]

end Sys2Proof.Machine

namespace Sys2Proof.Safety

open Sys2Proof.Machine

/-- Settles O36: both forms are eight shifts of the register with the byte in it. -/
theorem crcTableFormAgrees : Obligations.CrcTableFormAgrees := by
  intro c b
  rw [crcByte, crcShifts_eight, BitVec.ushiftRight_xor_distrib, setWidth_byte_ushiftRight, BitVec.xor_zero,
    crcByteByTable]

/-- Settles O37: the first CRC byte shifts its own value out of the register, and the second one leaves 0. -/
theorem crcOfWholeFrameIsZero : Obligations.CrcOfWholeFrameIsZero := by
  intro body
  have hhigh : crc16 body >>> 8 = ((crc16 body).extractLsb' 8 8).setWidth 16 := by
    ext i hi
    simp only [BitVec.getElem_ushiftRight, BitVec.getElem_setWidth, BitVec.getLsbD_extractLsb']
    cases hbit : (crc16 body).getLsbD (8 + i)
    · simp
    · have hlt := BitVec.lt_of_getLsbD hbit
      simp [show i < 8 by omega]
  have hzero : crcShifts 8 0 = 0 := by decide
  calc crc16 (withCrc body)
      = crcByte (crcByte (crc16 body) ((crc16 body).extractLsb' 0 8)) ((crc16 body).extractLsb' 8 8) := by
        simp only [withCrc, crc16, List.foldl_append, List.foldl_cons, List.foldl_nil]
    _ = crcByte (crc16 body >>> 8) ((crc16 body).extractLsb' 8 8) := by rw [crcByte_loByte]
    _ = crcShifts 8 0 := by rw [crcByte, hhigh, BitVec.xor_self]; rfl
    _ = 0 := hzero

/-- A frame of at least two bytes is what the CRC covers, followed by the CRC field, low byte first (R113). -/
theorem eq_crcCovered_append {f : List Byte} (h : 2 ≤ f.length) :
    f = crcCovered f ++ [byteAt f (f.length - 2), byteAt f (f.length - 1)] := by
  obtain ⟨n, hn⟩ : ∃ n, f.length = n + 2 := ⟨f.length - 2, by omega⟩
  have hlast : f.drop n = [f[n], f[n + 1]] := by
    rw [List.drop_eq_getElem_cons (by omega), List.drop_eq_getElem_cons (by omega), List.drop_of_length_le (by omega)]
  have hbyte : ∀ i (hi : i < f.length), byteAt f i = f[i] := fun i hi => List.getD_eq_getElem f 0 hi
  rw [crcCovered, hn, Nat.add_sub_cancel, show n + 2 - 1 = n + 1 from rfl, hbyte n (by omega), hbyte (n + 1) (by omega),
    ← hlast, List.take_append_drop]

/-- A frame with a right CRC is its body followed by the CRC of the body (R113). -/
theorem eq_withCrc_of_crc {f : List Byte} (hlen : 2 ≤ f.length) (hcrc : crc16 (crcCovered f) = crcField f) :
    f = withCrc (crcCovered f) := by
  have hf := eq_crcCovered_append hlen
  have hlow : (crcField f).extractLsb' 0 8 = byteAt f (f.length - 2) := by
    rw [crcField, joinBytes_eq_append]
    exact BitVec.extractLsb'_append_eq_right
  have hhigh : (crcField f).extractLsb' 8 8 = byteAt f (f.length - 1) := by
    rw [crcField, joinBytes_eq_append]
    exact BitVec.extractLsb'_append_eq_left
  rwa [withCrc, hcrc, hlow, hhigh]

/-- Changing one byte of a byte sequence changes its CRC. -/
theorem crc16_set_ne (f : List Byte) {i : Nat} (hi : i < f.length) {e : Byte} (he : e ≠ 0) :
    crc16 (f.set i (f[i] ^^^ e)) ≠ crc16 f := by
  have hset : crc16 (f.set i (f[i] ^^^ e)) =
      crc16 f ^^^ crcShifts (8 * (f.drop (i + 1)).length) (crcShifts 8 (e.setWidth 16)) := by
    rw [List.set_eq_take_append_cons_drop, if_pos hi, crc16, List.foldl_append, List.foldl_cons, crcByte_xor_byte,
      foldl_crcByte_xor, ← List.foldl_cons, ← List.foldl_append, ← List.drop_eq_getElem_cons hi, List.take_append_drop,
      crc16]
  intro heq
  rw [hset] at heq
  have hzero : crcShifts (8 * (f.drop (i + 1)).length) (crcShifts 8 (e.setWidth 16)) = 0#16 := by simpa using heq
  have hwide : (e.setWidth 16 : Half) = 0#16 := eq_zero_of_crcShifts (eq_zero_of_crcShifts hzero)
  exact he (by simpa using congrArg (BitVec.setWidth 8) hwide)

/-- Settles O38: the CRC of the whole flipped frame is not 0, as it would be with a right CRC. -/
theorem singleBitFlipIsChecksumError : Obligations.SingleBitFlipIsChecksumError := by
  intro slave fc p i j hi hj
  have hne : (1#8 <<< j) ≠ 0 := by
    intro hzero
    have hbit := congrArg (BitVec.getLsbD · j) hzero
    simp [hj] at hbit
  have hlen : 4 ≤ ((encodeFrame slave fc p).set i ((encodeFrame slave fc p)[i] ^^^ (1#8 <<< j))).length := by simp
  refine decodeGeneric_of_crc_ne hlen fun hcrc => ?_
  have hzero : crc16 (encodeFrame slave fc p) = 0 := by
    rw [encodeFrame_eq_withCrc]
    exact crcOfWholeFrameIsZero _
  refine crc16_set_ne _ hi hne (Eq.trans ?_ hzero.symm)
  rw [eq_withCrc_of_crc (by omega) hcrc]
  exact crcOfWholeFrameIsZero _

/-- Settles O35: six evaluations. -/
theorem crcWorkedValues : Obligations.CrcWorkedValues := by
  unfold Obligations.CrcWorkedValues
  decide +kernel

end Sys2Proof.Safety
end

section
/-!
PROOF. The decoders on whole frames (41_frame_codec.md sections 2 and 3): the round trip of the generic decoder, and
which responses the response decoder accepts.
-/

namespace Sys2Proof.Machine

/-- A frame with a right CRC and bit 7 of its function code set denotes an exception, if it has the byte that says
which (R126). -/
theorem decodeGeneric_of_exception {f : List Byte} (hlen : 4 ≤ f.length) (hcrc : crc16 (crcCovered f) = crcField f)
    (hbit : (byteAt f 1).getLsbD 7 = true) :
    decodeGeneric f = if f.length < 5 then .err .framingError 0 else .err .exceptionError (byteAt f 2) := by
  unfold decodeGeneric
  rw [if_neg (Nat.not_lt.2 hlen), if_neg (not_not_intro hcrc), if_pos hbit]

/-- The response decoder answers what the generic one rejects (R130). -/
theorem decodeResponse_of_err {rq : Request} {tx f : List Byte} {code : ErrorCode} {exc : Byte}
    (h : decodeGeneric f = .err code exc) : decodeResponse rq tx f = .err code exc := by
  unfold decodeResponse
  rw [h]

/-- No request has bit 7 of its function code set (R86). -/
theorem functionCode_bit (op : BusOp) : (functionCode op).getLsbD 7 = false := by
  cases op <;> rfl

end Sys2Proof.Machine

namespace Sys2Proof.Safety

open Sys2Proof.Machine

variable {slave fc : Byte} {rq : Request} {tx f d p : List Byte}

/-- The exception frame of R126. -/
theorem decodeGeneric_exception (hbit : fc.getLsbD 7 = true) (slave exc : Byte) (rest : List Byte) :
    decodeGeneric (withCrc (slave :: fc :: exc :: rest)) = .err .exceptionError exc := by
  have hexc := decodeGeneric_of_exception (f := withCrc (slave :: fc :: exc :: rest)) (by simp) (by simp) hbit
  rw [if_neg (by simp)] at hexc
  exact hexc

/-- The exception frame without its exception byte (R126). -/
theorem decodeGeneric_exception_short (hbit : fc.getLsbD 7 = true) (slave : Byte) :
    decodeGeneric (withCrc [slave, fc]) = .err .framingError 0 := by
  have hexc := decodeGeneric_of_exception (f := withCrc [slave, fc]) (by simp) (by simp) hbit
  rwa [if_pos (by simp)] at hexc

/-- Settles O39: an encoded frame is its body with a right CRC, so bit 7 of the function code decides. -/
theorem genericRoundTrip : Obligations.GenericRoundTrip := by
  intro slave fc p
  rw [encodeFrame_eq_withCrc]
  refine ⟨fun hbit => decodeGeneric_withCrc hbit slave p, ?exception, ?short⟩
  case exception =>
    rintro hbit x q rfl
    exact decodeGeneric_exception hbit slave x q
  case short =>
    rintro hbit rfl
    exact decodeGeneric_exception_short hbit slave

/-- What the generic decoder accepts is a frame with a right CRC and bit 7 of its function code clear (R127). -/
theorem eq_withCrc_of_decodeGeneric (h : decodeGeneric f = .ok p) :
    ∃ slave fc, fc.getLsbD 7 = false ∧ f = withCrc (slave :: fc :: p) := by
  obtain he | ⟨-, he⟩ | ⟨-, -, he⟩ | ⟨hlen, hcrc, hbit, hok⟩ := decodeGeneric_cases f
  · simp [h] at he
  · simp [h] at he
  · simp [h] at he
  · have hf := eq_withCrc_of_crc (by omega) hcrc
    have hcovered : (crcCovered f).length = f.length - 2 := by simp [crcCovered]
    obtain ⟨slave, fc, rest, hbody⟩ : ∃ slave fc rest, crcCovered f = slave :: fc :: rest := by
      match hbody : crcCovered f with
      | slave :: fc :: rest => exact ⟨slave, fc, rest, rfl⟩
      | [_] => simp [hbody] at hcovered; omega
      | [] => simp [hbody] at hcovered; omega
    have hp : rest = p := by simpa [h, hbody] using hok.symm
    rw [hbody, hp] at hf
    refine ⟨slave, fc, ?_, hf⟩
    rw [hf] at hbit
    exact hbit

/-- What the response decoder asks of the payload and takes from it (R130): a byte count and that many bytes of a read,
the echo of a write. -/
def PayloadAccepted (rq : Request) (tx p d : List Byte) : Prop :=
  if isRead rq.op then
    (byteAt p 0).toNat = expLenOf rq.op rq.arg.toNat - 5 ∧ d = (p.drop 1).take (expLenOf rq.op rq.arg.toNat - 5)
  else p = (tx.take 6).drop 2 ∧ d = []

/-- One check of R130: what it rejects is a FramingError, what it passes goes on. -/
theorem ok_after_check_iff {α : Type} {a b : α} [Decidable (a ≠ b)] {answer : Decoded} :
    (if a ≠ b then .err .framingError 0 else answer) = .ok d ↔ a = b ∧ answer = .ok d := by
  split <;> simp_all

/-- The checks of R130 on a frame with a right CRC. -/
theorem checkResponse_withCrc_eq_ok_iff :
    checkResponse rq tx (withCrc (slave :: fc :: p)) p = .ok d ↔
      slave = rq.slave ∧ fc = functionCode rq.op ∧ p.length + 4 = expLenOf rq.op rq.arg.toNat ∧
        PayloadAccepted rq tx p d := by
  have h0 : byteAt (withCrc (slave :: fc :: p)) 0 = slave := rfl
  have h1 : byteAt (withCrc (slave :: fc :: p)) 1 = fc := rfl
  have hlen : (withCrc (slave :: fc :: p)).length = p.length + 4 := by simp
  unfold checkResponse PayloadAccepted
  rw [h0, h1, hlen, ok_after_check_iff, ok_after_check_iff, ok_after_check_iff]
  cases isRead rq.op
  · simp only [Bool.false_eq_true, if_false, ok_after_check_iff, Decoded.ok.injEq, eq_comm (a := []) (b := d)]
  · simp only [if_true, ok_after_check_iff, Decoded.ok.injEq, eq_comm (a := List.take _ _) (b := d)]

/-- The accepted responses (R130). -/
theorem decodeResponse_eq_ok_iff :
    decodeResponse rq tx f = .ok d ↔
      ∃ p, f = withCrc (rq.slave :: functionCode rq.op :: p) ∧ p.length + 4 = expLenOf rq.op rq.arg.toNat ∧
        PayloadAccepted rq tx p d := by
  constructor
  · intro h
    unfold decodeResponse at h
    split at h
    case h_1 => cases h
    case h_2 p hp =>
      obtain ⟨slave, fc, -, rfl⟩ := eq_withCrc_of_decodeGeneric hp
      obtain ⟨rfl, rfl, hlen, haccepted⟩ := checkResponse_withCrc_eq_ok_iff.1 h
      exact ⟨p, rfl, hlen, haccepted⟩
  · rintro ⟨p, rfl, hlen, haccepted⟩
    unfold decodeResponse
    rw [decodeGeneric_withCrc (functionCode_bit rq.op)]
    exact checkResponse_withCrc_eq_ok_iff.2 ⟨rfl, rfl, hlen, haccepted⟩

/-- A decoder that accepts only accepted frames answers every other frame as `RejectedResponse` says (R123 to R127,
R136). -/
theorem rejectedResponse_of_ok {accepted : Prop} (hok : ∀ d, decodeResponse rq tx f = .ok d → accepted) :
    RejectedResponse (decodeResponse rq tx f) f accepted := by
  refine ⟨fun hlen => ?short, ?mismatch, ?exception, ?exceptionShort, ?other⟩
  case short => exact decodeResponse_of_err (decodeGeneric_of_length_lt hlen)
  case mismatch =>
    rintro body lo hi rfl hbody hcrc
    exact decodeResponse_of_err (decodeGeneric_of_crc_ne (by simpa using hbody) (by simpa using hcrc))
  case exception =>
    rintro slave fc exc rest hbit rfl
    exact decodeResponse_of_err (decodeGeneric_exception hbit slave exc rest)
  case exceptionShort =>
    rintro slave fc hbit rfl
    exact decodeResponse_of_err (decodeGeneric_exception_short hbit slave)
  case other =>
    rintro slave fc rest hbit rfl hnot
    have hcheck : decodeResponse rq tx (withCrc (slave :: fc :: rest)) =
        checkResponse rq tx (withCrc (slave :: fc :: rest)) rest := by
      unfold decodeResponse
      rw [decodeGeneric_withCrc hbit]
    obtain herr | ⟨d, hd⟩ := checkResponse_cases rq tx (withCrc (slave :: fc :: rest)) rest
    · exact hcheck.trans herr
    · exact absurd (hok d (hcheck.trans hd)) hnot

/-- The number of data bytes of the response to a read (R95, R131). -/
def dataLength (rq : Request) : Nat := if rq.op = .rdcoil then (rq.arg.toNat + 7) / 8 else 2 * rq.arg.toNat

/-- A read response has its address, function code, count and CRC around the data bytes (R95). -/
theorem expLenOf_of_read (hop : rq.op = .rdcoil ∨ rq.op = .rdireg ∨ rq.op = .rdhreg) :
    expLenOf rq.op rq.arg.toNat = 5 + dataLength rq := by
  unfold expLenOf dataLength ceilDiv
  obtain h | h | h := hop <;> simp [h]

/-- The payload of an accepted read response is the byte count and the data bytes (R89, R130). -/
theorem payloadAccepted_of_read (hop : rq.op = .rdcoil ∨ rq.op = .rdireg ∨ rq.op = .rdhreg)
    (harg : argInRange rq.op rq.arg.toNat = true) :
    (p.length + 4 = expLenOf rq.op rq.arg.toNat ∧ PayloadAccepted rq tx p d) ↔
      d.length = dataLength rq ∧ p = BitVec.ofNat 8 d.length :: d := by
  have hread : isRead rq.op = true := by obtain h | h | h := hop <;> rw [h] <;> rfl
  have hbound : dataLength rq < 256 := by
    have hle := (expLenOf_bounds rq.op rq.arg.toNat harg).2
    rw [expLenOf_of_read hop] at hle
    omega
  unfold PayloadAccepted
  rw [if_pos hread, expLenOf_of_read hop, Nat.add_sub_cancel_left]
  constructor
  · rintro ⟨hlen, hcount, hd⟩
    obtain ⟨x, q, rfl⟩ : ∃ x q, p = x :: q := List.exists_cons_of_length_pos (by omega)
    have hq : q.length = dataLength rq := by
      rw [List.length_cons] at hlen
      omega
    have hdq : d = q := hd.trans (List.take_of_length_le hq.le)
    have hx : x = BitVec.ofNat 8 q.length := by
      rw [hq, ← hcount]
      exact ((BitVec.ofNat_toNat 8 x).trans x.setWidth_eq).symm
    rw [hdq, ← hx]
    exact ⟨hq, rfl⟩
  · rintro ⟨hlen, rfl⟩
    refine ⟨by rw [List.length_cons, hlen]; omega, ?count, (List.take_of_length_le hlen.le).symm⟩
    case count =>
      rw [hlen]
      exact (BitVec.toNat_ofNat _ 8).trans (Nat.mod_eq_of_lt hbound)

/-- Settles O41: the payload that passes the checks of a read is the count and the data, and what is accepted decides
what is rejected. -/
theorem readResponseAcceptedIff : Obligations.ReadResponseAcceptedIff := by
  intro rq tx f hop harg
  have hiff : ∀ d, decodeResponse rq tx f = .ok d ↔
      d.length = dataLength rq ∧ f = withCrc (rq.slave :: functionCode rq.op :: BitVec.ofNat 8 d.length :: d) := by
    intro d
    rw [decodeResponse_eq_ok_iff]
    constructor
    · rintro ⟨p, rfl, hp⟩
      obtain ⟨hlen, rfl⟩ := (payloadAccepted_of_read hop harg).1 hp
      exact ⟨hlen, rfl⟩
    · rintro ⟨hlen, rfl⟩
      exact ⟨_, rfl, (payloadAccepted_of_read hop harg).2 ⟨hlen, rfl⟩⟩
  exact ⟨hiff, rejectedResponse_of_ok fun d hd => ⟨d, (hiff d).1 hd⟩⟩

/-- Settles O42: the payload that passes the checks of a write is bytes 2 to 5 of the request frame, and what is accepted
decides what is rejected. -/
theorem writeResponseAcceptedIff : Obligations.WriteResponseAcceptedIff := by
  intro rq tx f hop htx
  have hwrite : isRead rq.op = false := by obtain h | h | h := hop <;> rw [h] <;> rfl
  have hexp : expLenOf rq.op rq.arg.toNat = 8 := by obtain h | h | h := hop <;> rw [h] <;> rfl
  have hecho : (tx.take 6).drop 2 = (tx.drop 2).take 4 := List.drop_take
  have hiff : ∀ d, decodeResponse rq tx f = .ok d ↔
      f = withCrc (rq.slave :: functionCode rq.op :: (tx.drop 2).take 4) ∧ d = [] := by
    intro d
    rw [decodeResponse_eq_ok_iff, hexp]
    simp only [PayloadAccepted, hwrite, Bool.false_eq_true, if_false, hecho]
    constructor
    · rintro ⟨p, rfl, -, rfl, rfl⟩
      exact ⟨rfl, rfl⟩
    · rintro ⟨rfl, rfl⟩
      exact ⟨_, rfl, by simp; omega, rfl, rfl⟩
  exact ⟨(hiff []).trans (and_iff_left rfl), rejectedResponse_of_ok fun d hd => ((hiff d).1 hd).1⟩

end Sys2Proof.Safety
end

section
/-!
PROOF. The response timeout (42_serial_transport.md sections 5 and 7): a receiver that does not get the bytes it expects
waits exactly until the tick that brings its timer to 0.
-/

namespace Sys2Proof.Safety

open Sys2Proof.Machine

variable {s t : State}

/-- A tick that is not the last one leaves the receiver waiting (R167). -/
theorem leads_tick_of_rx (h : Inv s) (hphase : s.phase = .rx) (h1 : 1 < s.timer.toNat) :
    Leads s .tick { s with timer := s.timer - 1 } := by
  have hne : s.timer ≠ 1 := by bv_omega
  have htick := tickInRx s h hphase
  rwa [if_neg hne] at htick

/-- The last tick expires the timeout (R167, R169). -/
theorem leads_tick_of_rx_last (h : Inv s) (hphase : s.phase = .rx) (h1 : s.timer = 1) :
    Leads s .tick (completed { s with timer := 0 } (if s.rxCnt = 0 then 4 else 3) 0) := by
  have htick := tickInRx s h hphase
  rwa [if_pos h1] at htick

/-- A byte that is not the last one leaves the receiver waiting, whatever is pending (R170). -/
theorem leads_rxByte_of_more (hphase : s.phase = .rx) (b : Byte) (hi : s.rxCnt.toNat < 256)
    (hmore : (collect b s hi).rxCnt ≠ (collect b s hi).expLen) (rest : List Event) :
    Leads (withEvents s rest) (.rxByte b) (withEvents (collect b s hi) rest) := by
  have hrx := rxByte_of_rx (s := withEvents s rest) hphase hi b
  rw [collect_withEvents] at hrx
  exact hrx.trans (congrArg _ (if_neg hmore))

/-- The bytes that arrive, one event at a time. -/
theorem bytesIn_rxByte (b : Byte) (es : List Event) : bytesIn (.rxByte b :: es) = b :: bytesIn es := rfl

/-- A collected byte is counted (R170). -/
theorem collect_rxCnt_toNat (b : Byte) (s : State) (hi : s.rxCnt.toNat < 256) :
    (collect b s hi).rxCnt.toNat = s.rxCnt.toNat + 1 := by
  rw [collect_eq]
  exact toNat_succ hi

/-- The second byte revises the expected length if it has bit 7 set (R171). -/
theorem collect_expLen_eq (b : Byte) (s : State) (hi : s.rxCnt.toNat < 256) :
    (collect b s hi).expLen = if s.rxCnt.toNat = 1 ∧ b.getLsbD 7 = true then 5 else s.expLen := by
  have hone : s.rxCnt = 1 ↔ s.rxCnt.toNat = 1 := BitVec.toNat_inj.symm
  simp only [collect_eq_of_byte, hone]

/-- From the second byte on the expected length is known (R171). -/
theorem expectedAfter_of_two {s : State} (h : 2 ≤ s.rxCnt.toNat) (es : List Event) :
    expectedAfter s es = s.expLen.toNat := if_neg (by omega)

/-- Collecting a byte does not change how many bytes are expected in all: the second byte is looked at either way
(R171). -/
theorem expectedAfter_collect (b : Byte) (s : State) (hi : s.rxCnt.toNat < 256) (es : List Event) :
    expectedAfter (collect b s hi) es = expectedAfter s (.rxByte b :: es) := by
  have hexp := collect_expLen_eq b s hi
  have hcount := collect_rxCnt_toNat b s hi
  obtain h0 | h1 | h2 : s.rxCnt.toNat = 0 ∨ s.rxCnt.toNat = 1 ∨ 2 ≤ s.rxCnt.toNat := by omega
  · rw [h0] at hexp hcount
    simp [expectedAfter, bytesIn_rxByte, h0, hcount, hexp]
  · rw [h1] at hexp hcount
    rw [expectedAfter_of_two (by omega), hexp]
    cases hbit : b[7] <;> simp [expectedAfter, bytesIn_rxByte, h1, hbit]
  · rw [expectedAfter_of_two (by omega), expectedAfter_of_two h2, hexp, if_neg (by omega)]

/-- A receiver that still expects more bytes than it has collected has not completed its response. -/
theorem collect_more (h : Inv s) (hphase : s.phase = .rx) (b : Byte) (hi : s.rxCnt.toNat < 256) {es : List Event}
    (hfew : s.rxCnt.toNat + 1 < expectedAfter (collect b s hi) es) :
    (collect b s hi).rxCnt ≠ (collect b s hi).expLen := by
  have hcount := collect_rxCnt_toNat b s hi
  refine BitVec.toNat_ne.2 (Nat.ne_of_lt ?_)
  by_cases hfirst : s.rxCnt.toNat = 0
  · obtain ⟨-, -, hfive, -⟩ := h.receiving hphase
    rw [collect_expLen_eq, if_neg (by omega)]
    omega
  · rw [expectedAfter_of_two (by omega)] at hfew
    omega

/-- `u` is `s` after a while of waiting in RX, with `ticks` ticks and `bytes` bytes gone by. -/
structure WaitedUntil (s u : State) (ticks bytes : Nat) : Prop where
  inv : Inv u
  phase : u.phase = .rx
  timer : u.timer.toNat + ticks = s.timer.toNat
  rxCnt : u.rxCnt.toNat = s.rxCnt.toNat + bytes
  data : u.data = s.data

/-- The receiver waits as long as neither the ticks reach the timeout nor the bytes the expected length. -/
theorem run_waiting (es rest : List Event) (h : Inv s) (hphase : s.phase = .rx)
    (hline : es.all isTickOrByte = true) (hticks : es.count .tick < s.timer.toNat)
    (hbytes : s.rxCnt.toNat + (bytesIn es).length < expectedAfter s es) :
    ∃ u, (∀ n, core.run (es.length + n) (withEvents s (es ++ rest)) = core.run n (withEvents u rest)) ∧
      WaitedUntil s u (es.count .tick) (bytesIn es).length := by
  induction es generalizing s with
  | nil => exact ⟨s, by simp, h, hphase, rfl, rfl, rfl⟩
  | cons e es ih =>
    obtain ⟨hthis, hline⟩ : isTickOrByte e = true ∧ es.all isTickOrByte = true := by simpa using hline
    simp only [List.length_cons, Nat.add_right_comm _ 1, List.cons_append]
    cases e
    case tick =>
      rw [List.count_cons_self] at hticks ⊢
      have hstep := leads_tick_of_rx (s := withEvents s (es ++ rest)) (h.withInputs _) hphase
        (show 1 < s.timer.toNat by omega)
      have htimer : (s.timer - 1).toNat + 1 = s.timer.toNat := by bv_omega
      obtain ⟨u, hrun, hinv, hrx, htime, hcount, hdata⟩ := ih (s := { s with timer := s.timer - 1 })
        (inv_counted h (by bv_omega)) hphase hline (by dsimp only; omega) hbytes
      refine ⟨u, fun n => (run_cons s _ hstep _).trans (hrun n), hinv, hrx, ?_, hcount, hdata⟩
      dsimp only at htime
      omega
    case rxByte b =>
      rw [List.count_cons_of_ne (by simp)] at hticks ⊢
      have hi : s.rxCnt.toNat < 256 := by
        obtain ⟨-, hlt, -, hle⟩ := h.receiving hphase
        omega
      rw [← expectedAfter_collect b s hi es, bytesIn_rxByte, List.length_cons] at hbytes
      have hmore := collect_more h hphase b hi (es := es) (by omega)
      have hstep := leads_rxByte_of_more hphase b hi hmore (es ++ rest)
      have hcollected := collect_rxCnt_toNat b s hi
      obtain ⟨u, hrun, hinv, hrx, htime, hcount, hdata⟩ := ih (inv_collect h hphase b hi hmore)
        (by rw [collect_eq]; exact hphase) hline (by rw [collect_eq]; exact hticks) (by omega)
      rw [collect_eq] at htime hdata
      refine ⟨u, fun n => (run_cons s _ hstep _).trans (hrun n), hinv, hrx, htime, ?_, hdata⟩
      rw [hcount, bytesIn_rxByte, List.length_cons]
      omega
    all_goals cases hthis

/-- Settles O56: the receiver waits until one tick is left, and that tick expires the timeout. -/
theorem responseTimeoutIsExact : Obligations.ResponseTimeoutIsExact := by
  intro s es h hphase hline hticks hbytes
  obtain ⟨u, hrun, hinv, hrx, htimer, hcount, hdata⟩ :=
    run_waiting es [.tick] h hphase hline (by omega) hbytes
  have hlast : u.timer = 1 := BitVec.eq_of_toNat_eq (show u.timer.toNat = 1 by omega)
  have hexpire := leads_tick_of_rx_last (s := withEvents u []) (hinv.withInputs []) hrx hlast
  exact ⟨⟨withEvents u [.tick], hrun 0, hinv.busy_iff_phase.2 (by simp [hrx]), hrx⟩,
    _, (hrun 1).trans (run_cons u [] hexpire 0), rfl, rfl, hcount, hdata, rfl⟩

end Sys2Proof.Safety
end

section
/-!
PROOF. Every exchange ends when the environment is fair (70_reset_and_hazards.md section 4): the events that an exchange
still needs are a list that every awaited event shortens and no other event lengthens.
-/

namespace Sys2Proof.Machine

variable {s t : State}

theorem complete_inputs (code : ErrorCode) (exc : Byte) (s : State) : (complete code exc s).inputs = s.inputs := by
  rw [complete_eq]

theorem enterRx_inputs (s : State) : (enterRx s).inputs = s.inputs := by
  rw [enterRx_eq]
  split
  · exact complete_inputs _ _ _
  · rfl

theorem frameSent_inputs (s : State) : (frameSent s).inputs = s.inputs := by
  unfold frameSent
  split
  · rfl
  · exact enterRx_inputs s

theorem finish_inputs (s : State) : (finish s).inputs = s.inputs := by
  obtain ⟨code, exc, -, h⟩ | ⟨d, -, h⟩ := finish_cases s <;> rw [h]
  · exact complete_inputs code exc s
  · exact complete_inputs .success 0 (writeBack d s)

/-- No event looks ahead: the events pending after it are left as they are (R9). -/
theorem Change.inputs_eq {e : Event} (hc : Change s e t) : t.inputs = s.inputs := by
  cases hc
  case aside | dataStored | configStored | counted | preEnded | byteSent | reset => rfl
  case answered | abandoned => exact complete_inputs _ _ _
  case expired => rw [expire_eq]; exact complete_inputs _ _ _
  case opened => exact (complete_inputs _ _ _).trans (by rw [connect_eq]; rfl)
  case closed => exact (complete_inputs _ _ _).trans (by rw [disconnect_eq]; rfl)
  case begun => simp [beginExchange_eq]
  case postEnded => exact enterRx_inputs _
  case lastByteSent => exact frameSent_inputs _
  case byteCollected => rw [collect_eq]
  case responseEnded => rw [finish_inputs, collect_eq]

end Sys2Proof.Machine

namespace Sys2Proof.Safety

open Sys2Proof.Machine

/-- The events that the exchange in flight still needs if no response comes: the ticks of the running delay, the
acceptance of every byte that is left, the ticks of the post-delay and of the timeout. -/
def neededEvents (s : State) : List Event :=
  match s.phase with
  | .idle => []
  | .pre =>
      List.replicate s.timer.toNat .tick ++ List.replicate s.txLen.toNat .txAccept ++
        List.replicate (s.cfgRtsDelay.toNat + s.cfgTimeout.toNat) .tick
  | .tx =>
      List.replicate (s.txLen.toNat - s.txIdx.toNat) .txAccept ++
        List.replicate (s.cfgRtsDelay.toNat + s.cfgTimeout.toNat) .tick
  | .post => List.replicate (s.timer.toNat + s.cfgTimeout.toNat) .tick
  | .rx => List.replicate s.timer.toNat .tick

variable {s t : State}

theorem neededEvents_of_pre (h : s.phase = .pre) :
    neededEvents s = List.replicate s.timer.toNat .tick ++ List.replicate s.txLen.toNat .txAccept ++
      List.replicate (s.cfgRtsDelay.toNat + s.cfgTimeout.toNat) .tick := by simp only [neededEvents, h]

theorem neededEvents_of_tx (h : s.phase = .tx) :
    neededEvents s = List.replicate (s.txLen.toNat - s.txIdx.toNat) .txAccept ++
      List.replicate (s.cfgRtsDelay.toNat + s.cfgTimeout.toNat) .tick := by simp only [neededEvents, h]

theorem neededEvents_of_post (h : s.phase = .post) :
    neededEvents s = List.replicate (s.timer.toNat + s.cfgTimeout.toNat) .tick := by simp only [neededEvents, h]

theorem neededEvents_of_rx (h : s.phase = .rx) : neededEvents s = List.replicate s.timer.toNat .tick := by
  simp only [neededEvents, h]

/-- A fair list of events has what the exchange needs, whatever its phase is (70_reset_and_hazards.md section 4). -/
theorem neededEvents_sublist (s : State) :
    (neededEvents s).Sublist
      (List.replicate s.timer.toNat Event.tick ++ List.replicate s.txLen.toNat Event.txAccept ++
        List.replicate (s.cfgRtsDelay.toNat + s.cfgTimeout.toNat) Event.tick) := by
  cases hphase : s.phase
  case idle => simp [neededEvents, hphase]
  case pre => rw [neededEvents_of_pre hphase]
  case tx =>
    rw [neededEvents_of_tx hphase, List.append_assoc]
    have hleft := List.replicate_sublist_replicate Event.txAccept |>.2 (Nat.sub_le s.txLen.toNat s.txIdx.toNat)
    exact List.sublist_append_of_sublist_right (hleft.append_right _)
  case post =>
    rw [neededEvents_of_post hphase, ← List.replicate_append_replicate]
    exact (List.sublist_append_left _ _).append
      ((List.replicate_sublist_replicate Event.tick).2 (Nat.le_add_left _ _))
  case rx =>
    rw [neededEvents_of_rx hphase, List.append_assoc]
    exact List.sublist_append_left _ _

/-- A busy block waits for its first needed event, which there is (R52 (e) to (g)). -/
theorem neededEvents_eq_cons (h : Inv s) (hbusy : s.busy = true) :
    ∃ e rest, neededEvents s = e :: rest ∧ Awaits s e := by
  have hsucc : ∀ {n : Nat}, 1 ≤ n → ∃ m, n = m + 1 := fun {n} hn => ⟨n - 1, by omega⟩
  cases hphase : s.phase
  case idle => exact absurd hphase (h.busy_iff_phase.1 hbusy)
  case pre =>
    obtain ⟨n, hn⟩ := hsucc (h.delay_running (.inl hphase)).1
    rw [neededEvents_of_pre hphase, hn]
    exact ⟨.tick, _, rfl, .inl hphase⟩
  case tx =>
    obtain ⟨hleft, -⟩ := h.transmitting hphase
    obtain ⟨n, hn⟩ := hsucc (show 1 ≤ s.txLen.toNat - s.txIdx.toNat by omega)
    rw [neededEvents_of_tx hphase, hn]
    exact ⟨.txAccept, _, rfl, hphase⟩
  case post =>
    obtain ⟨hrunning, -⟩ := h.delay_running (.inr hphase)
    obtain ⟨n, hn⟩ := hsucc (show 1 ≤ s.timer.toNat + s.cfgTimeout.toNat by omega)
    rw [neededEvents_of_post hphase, hn]
    exact ⟨.tick, _, rfl, .inr (.inl hphase)⟩
  case rx =>
    obtain ⟨n, hn⟩ := hsucc (h.receiving hphase).1
    rw [neededEvents_of_rx hphase, hn]
    exact ⟨.tick, _, rfl, .inr (.inr hphase)⟩

/-- `t` needs what `s` needs without its first event `e`, or less. -/
def Shortens (s : State) (e : Event) (t : State) : Prop :=
  ∃ rest, neededEvents s = e :: rest ∧ (neededEvents t).Sublist rest

/-- An exchange whose next need is exactly that of `t` with `e` before it. -/
theorem Shortens.of_eq {e : Event} (hs : neededEvents s = e :: neededEvents t) : Shortens s e t :=
  ⟨neededEvents t, hs, List.Sublist.refl _⟩

/-- `EnterRx`, if it does not end the exchange, leaves the timeout to wait for (R166). -/
theorem neededEvents_enterRx (h : (enterRx s).busy = true) :
    neededEvents (enterRx s) = List.replicate s.cfgTimeout.toNat .tick := by
  rw [enterRx_eq] at h ⊢
  split at h
  case isTrue => exact absurd h Bool.false_ne_true
  case isFalse htimeout =>
    rw [if_neg htimeout]
    exact neededEvents_of_rx rfl

/-- The end of the transmission leaves the post-delay, if any, and the timeout to wait for (R158). -/
theorem neededEvents_frameSent (h : (frameSent s).busy = true) :
    (neededEvents (frameSent s)).Sublist (List.replicate (s.cfgRtsDelay.toNat + s.cfgTimeout.toNat) .tick) := by
  unfold frameSent at h ⊢
  split at h
  case isTrue hdelay =>
    rw [if_pos hdelay, neededEvents_of_post rfl]
    exact List.Sublist.refl _
  case isFalse hdelay =>
    rw [if_neg hdelay, neededEvents_enterRx h]
    exact (List.replicate_sublist_replicate Event.tick).2 (Nat.le_add_left _ _)

/-- A tick that does not end its phase shortens what is needed by itself (R156, R162, R167). -/
theorem shortens_counted (hphase : s.phase = .pre ∨ s.phase = .post ∨ s.phase = .rx) (h0 : s.timer ≠ 0) :
    Shortens s .tick { s with timer := s.timer - 1 } := by
  have htimer : s.timer.toNat = (s.timer - 1).toNat + 1 := by bv_omega
  refine .of_eq ?_
  obtain h | h | h := hphase
  · rw [neededEvents_of_pre h, neededEvents_of_pre (by exact h), htimer]
    rfl
  · rw [neededEvents_of_post h, neededEvents_of_post (by exact h), htimer, Nat.add_right_comm]
    rfl
  · rw [neededEvents_of_rx h, neededEvents_of_rx (by exact h), htimer]
    rfl

/-- An acceptance that is not the last one shortens what is needed by itself (R158). -/
theorem shortens_byteSent (h : Inv s) (hphase : s.phase = .tx) (b : Byte) :
    Shortens s .txAccept (emit (.tx b) { s with txIdx := s.txIdx + 1 }) := by
  obtain ⟨hlt, -, hle⟩ := h.transmitting hphase
  have hleft : s.txLen.toNat - s.txIdx.toNat = s.txLen.toNat - (s.txIdx + 1).toNat + 1 := by
    rw [toNat_succ (by omega)]
    omega
  refine .of_eq ?_
  rw [neededEvents_of_tx hphase, neededEvents_of_tx (by exact hphase), hleft]
  rfl

/-- The last acceptance leaves the post-delay and the timeout (R158). -/
theorem shortens_lastByteSent (h : Inv s) (hphase : s.phase = .tx) (hlast : s.txIdx + 1 = s.txLen) (b : Byte)
    (ht : (frameSent (emit (.tx b) { s with txIdx := s.txIdx + 1 })).busy = true) :
    Shortens s .txAccept (frameSent (emit (.tx b) { s with txIdx := s.txIdx + 1 })) := by
  obtain ⟨hlt, -, hle⟩ := h.transmitting hphase
  have hleft : s.txLen.toNat - s.txIdx.toNat = 1 := by
    rw [← hlast, toNat_succ (by omega)]
    omega
  refine ⟨_, ?_, neededEvents_frameSent ht⟩
  rw [neededEvents_of_tx hphase, hleft]
  rfl

/-- The last tick of the pre-delay shortens what is needed by itself (R156). -/
theorem shortens_preEnded (hpre : s.phase = .pre) (h1 : s.timer = 1) :
    Shortens s .tick (enterTx { s with timer := 0 }) := by
  refine .of_eq ?_
  rw [neededEvents_of_pre hpre, neededEvents_of_tx rfl, h1]
  rfl

/-- Every change of a busy block that stays busy either is by the awaited event and shortens what is needed, or leaves
it as it is. -/
theorem shortens_of_change {e : Event} (h : Inv s) (hc : Change s e t) (hbusy : s.busy = true) (ht : t.busy = true) :
    Shortens s e t ∨ neededEvents t = neededEvents s ∧ ¬ Awaits s e := by
  cases hc
  case aside hunawaited => exact .inr ⟨rfl, hunawaited⟩
  case dataStored => exact .inr ⟨rfl, id⟩
  case configStored hclosed _ _ => simp [h.busy_open hbusy] at hclosed
  case answered hidle _ => simp [hbusy] at hidle
  case opened hidle _ _ _ => simp [hbusy] at hidle
  case closed hidle => simp [hbusy] at hidle
  case begun hidle _ _ => simp [hbusy] at hidle
  case counted hphase h0 _ => exact .inl (shortens_counted hphase h0)
  case preEnded hphase h1 => exact .inl (shortens_preEnded hphase h1)
  case postEnded hphase h1 =>
    refine .inl (.of_eq ?_)
    rw [neededEvents_enterRx ht, neededEvents_of_post hphase, h1, Nat.add_comm]
    rfl
  case expired =>
    rw [expire_eq] at ht
    cases ht
  case byteSent hphase _ _ => exact .inl (shortens_byteSent h hphase _)
  case lastByteSent hphase _ hlast => exact .inl (shortens_lastByteSent h hphase hlast _ ht)
  case byteCollected => exact .inr ⟨by rw [collect_eq]; rfl, id⟩
  case responseEnded b _ hi _ => simp [(finish_ends (collect b s hi)).2.1] at ht
  case abandoned => cases ht
  case reset => cases ht

/-- What is needed stays among the events to come. -/
theorem needed_of_change {e : Event} {es : List Event} (h : Inv s) (hc : Change s e t) (hbusy : s.busy = true)
    (ht : t.busy = true) (hneeded : (neededEvents s).Sublist (e :: es)) : (neededEvents t).Sublist es := by
  obtain ⟨rest, hs, hrest⟩ | ⟨hsame, hunawaited⟩ := shortens_of_change h hc hbusy ht
  · rw [hs] at hneeded
    exact hrest.trans (List.cons_sublist_cons.1 hneeded)
  · obtain ⟨first, rest, hs, hawaited⟩ := neededEvents_eq_cons h hbusy
    rw [hsame]
    rw [hs] at hneeded ⊢
    obtain hskip | ⟨r, heq, -⟩ := List.sublist_cons_iff.1 hneeded
    · exact hskip
    · cases heq
      exact absurd hawaited hunawaited

/-- Settles O57: the induction over the events to come, among which the needed ones are, so that a busy block cannot be
at their end. -/
theorem fairEnvironmentEndsExchange : Obligations.FairEnvironmentEndsExchange := by
  intro s es h hbusy hfair
  have hneeded := (neededEvents_sublist s).trans hfair
  clear hfair
  induction es generalizing s with
  | nil =>
    obtain ⟨e, rest, hs, -⟩ := neededEvents_eq_cons h hbusy
    rw [hs] at hneeded
    cases hneeded
  | cons e es ih =>
    have hpending : Inv (withEvents s es) := h.withInputs es
    obtain ⟨t, hleads⟩ := applyEvent_next hpending e
    have hc := Change.of_applyEvent hleads
    have hinv := inv_of_change hpending hc
    have hrun : ∀ k, core.run (k + 1) (withEvents s (e :: es)) = core.run k t := run_cons s es hleads
    cases ht : t.busy
    case false =>
      refine ⟨1, t, by simp, hrun 0, ht, (idle_of_not_busy hinv ht).1, fun hreset => ?_⟩
      obtain ⟨-, -, -, -, -, hdone⟩ := undisturbed_of_busy hpending hbusy hc (fun he => hreset (by simp [he]))
      exact hdone hbusy ht
    case true =>
      have hsame : withEvents t es = t := by
        rw [← show t.inputs = es from hc.inputs_eq]
        rfl
      obtain ⟨k, u, hk, hu, hidle, hphase, hdone⟩ := ih t hinv ht (needed_of_change hpending hc hbusy ht hneeded)
      rw [hsame] at hu
      exact ⟨k + 1, u, Nat.succ_le_succ hk, (hrun k).trans hu, hidle, hphase,
        fun hreset => hdone fun hlater => hreset (List.mem_cons_of_mem e hlater)⟩

end Sys2Proof.Safety
end
